-- ==== Sys2Proof/Word.lean ====
section
/-! DEFINITION. The word types of the DPF: a byte (R8) and a 16-bit datapath register (R6). -/

namespace Sys2Proof

/-- A byte is 8 bits (R8). -/
abbrev Byte := BitVec 8

/-- The width of HIDX, PCNT, DLEN, ELAPSED and PLEN (R6, R35). -/
abbrev Half := BitVec 16

/-- A 17-bit host byte address (R43). -/
abbrev Addr := BitVec 17

end Sys2Proof
end

