-- ==== Sys2Proof/Machine/Constants.lean ====
section
/-! DEFINITION. The named codes and decided parameters of the spec: `STATE` (R16), `OP` (R19), `CAUSE`
(R33), the wire sentinels (R12), and the numbers of R6. -/

namespace Sys2Proof.Machine

/-- `STATE` code 0 (R16). -/
@[simp] abbrev phaseIdle : BitVec 3 := 0#3
/-- `STATE` code 1 (R16). -/
@[simp] abbrev phasePredrain : BitVec 3 := 1#3
/-- `STATE` code 2 (R16). -/
@[simp] abbrev phaseScan : BitVec 3 := 2#3
/-- `STATE` code 3 (R16). -/
@[simp] abbrev phaseTxsend : BitVec 3 := 3#3
/-- `STATE` code 4 (R16). -/
@[simp] abbrev phaseTxflush : BitVec 3 := 4#3
/-- `STATE` code 5 (R16). -/
@[simp] abbrev phaseRxwait : BitVec 3 := 5#3
/-- `STATE` code 6 (R16). -/
@[simp] abbrev phasePostdrain : BitVec 3 := 6#3

/-- `OP` = EXECUTE (R19). -/
@[simp] abbrev opExecute : BitVec 2 := 1#2
/-- `OP` = POLL (R19). -/
@[simp] abbrev opPoll : BitVec 2 := 2#2

/-- `CAUSE` = NONE (R33). -/
@[simp] abbrev causeNone : BitVec 3 := 0#3
/-- `CAUSE` = TIMEOUT (R33). -/
@[simp] abbrev causeTimeout : BitVec 3 := 1#3
/-- `CAUSE` = NACK (R33). -/
@[simp] abbrev causeNack : BitVec 3 := 2#3
/-- `CAUSE` = INCOMPLETE (R33). -/
@[simp] abbrev causeIncomplete : BitVec 3 := 3#3
/-- `CAUSE` = BADCMD (R33). -/
@[simp] abbrev causeBadcmd : BitVec 3 := 4#3

/-- START, the resync sentinel (R12, R60). -/
@[simp] abbrev startByte : Byte := 0xFE#8
/-- END, the terminator (R12, R60). -/
@[simp] abbrev endByte : Byte := 0xFD#8
/-- The command type of a notification (R12, R69). -/
@[simp] abbrev notifyType : Byte := 0x07#8

/-- `TIMEOUT_MS` (R6). -/
@[simp] abbrev timeoutMs : Nat := 200
/-- `TX_SCAN_LIMIT` (R6): the scan examines indices 0 to 254. -/
@[simp] abbrev txScanLimit : Nat := 255
/-- `TXBUF_SIZE` (R6). -/
@[simp] abbrev txbufSize : Nat := 256
/-- `RAW_READ_TIMEOUT_MS` (R6), consumed by no DPF rule. -/
@[simp] abbrev rawReadTimeoutMs : Nat := 50
/-- `READY_POLL_MS` (R6), used only by the host's `initialize()` loop (R133). -/
@[simp] abbrev readyPollMs : Nat := 100

end Sys2Proof.Machine
end

