-- ==== Sys2Proof/Syntax.lean ====
section
/-! DEFINITION. The rows of spec/opcode_table.json, one constructor each: the six bus words (R68), the
eight sequencer codes (R16) and the five frame classes (R69). -/

namespace Sys2Proof

/-- One row of the opcode table with its operands.

BUS26 rows are one host access (R67), STATE3 rows one phase of the sequencer (R16), RXCLASS16 rows the
class of a completed frame under the operation in progress (R69). -/
inductive Instr where
  /-- RD, host read of one byte (R74). -/
  | rd (addr : Addr)
  /-- WR.CMD.EXECUTE (R75, R77). -/
  | wrCmdExecute
  /-- WR.CMD.POLL (R76, R77). -/
  | wrCmdPoll
  /-- WR.CMD.RSVD, a reserved command code (R77, R78). -/
  | wrCmdRsvd (data : Byte)
  /-- WR.TXBUF, command byte `k` (R79, R80). -/
  | wrTxbuf (k : Byte) (data : Byte)
  /-- WR.IGNORED, a write anywhere else (R81). -/
  | wrIgnored (addr : Addr) (data : Byte)
  /-- STATE.IDLE (R82). -/
  | stateIdle
  /-- STATE.PREDRAIN (R84). -/
  | statePredrain
  /-- STATE.SCAN (R85). -/
  | stateScan
  /-- STATE.TXSEND (R86). -/
  | stateTxsend
  /-- STATE.TXFLUSH (R87). -/
  | stateTxflush
  /-- STATE.RXWAIT (R89). -/
  | stateRxwait
  /-- STATE.POSTDRAIN (R101). -/
  | statePostdrain
  /-- STATE.UNUSED7, the code no rule writes (R17). -/
  | stateUnused7
  /-- RXCLASS.EXECUTE.NACK, type 0x00 and id 0x02 (R108). -/
  | rxclassExecuteNack
  /-- RXCLASS.EXECUTE.NOTIFY, type 0x07 (R109). -/
  | rxclassExecuteNotify (id : Byte)
  /-- RXCLASS.EXECUTE.REPLY, every other frame (R110). -/
  | rxclassExecuteReply (cmdType : Byte) (id : Byte)
  /-- RXCLASS.POLL.NOTIFY, type 0x07 (R111). -/
  | rxclassPollNotify (id : Byte)
  /-- RXCLASS.POLL.OTHER, every other frame (R111). -/
  | rxclassPollOther (cmdType : Byte) (id : Byte)
  deriving DecidableEq, Repr

end Sys2Proof
end

