-- ==== Sys2Proof/WellFormed.lean ====
section
/-! DEFINITION. Which operands a row may carry. "First match wins" (R68, R69) makes an operand that an
earlier row of the format matches ill-formed in a later row. -/

namespace Sys2Proof

/-- The operand checks of R68 and R69, one arm per row. -/
def Instr.wellFormed : Instr → Bool
  | .rd _ => true
  | .wrCmdExecute => true
  | .wrCmdPoll => true
  | .wrCmdRsvd data => data != 0x01 && data != 0x02
  | .wrTxbuf _ _ => true
  | .wrIgnored addr _ => addr != 0 && addr.toNat / 256 != 1
  | .stateIdle => true
  | .statePredrain => true
  | .stateScan => true
  | .stateTxsend => true
  | .stateTxflush => true
  | .stateRxwait => true
  | .statePostdrain => true
  | .stateUnused7 => true
  | .rxclassExecuteNack => true
  | .rxclassExecuteNotify _ => true
  | .rxclassExecuteReply cmdType id => cmdType != 0x07 && !(cmdType == 0x00 && id == 0x02)
  | .rxclassPollNotify _ => true
  | .rxclassPollOther cmdType _ => cmdType != 0x07

/-- A row with operands that its own encoding, and no earlier row's, gives it. -/
abbrev Instr.WellFormed (i : Instr) : Prop := i.wellFormed = true

end Sys2Proof
end

