-- ==== Sys2Proof/Decode.lean ====
section
/-! DEFINITION. Decoding and encoding of the three formats of spec/opcode_table.json: the bus word (R67,
R68), the sequencer code (R16) and the frame class (R69). -/

namespace Sys2Proof

/-! ## Bus words -/

/-- Bit 25 of a bus word (R67). -/
def busWordWe (w : BitVec 26) : Bool := decide (w.toNat / 2 ^ 25 = 1)

/-- Bits 24:8 of a bus word (R67). -/
def busWordAddr (w : BitVec 26) : Addr := BitVec.ofNat 17 (w.toNat / 2 ^ 8)

/-- Bits 7:0 of a bus word (R67). -/
def busWordData (w : BitVec 26) : Byte := BitVec.ofNat 8 w.toNat

/-- `w = WE·2^25 + ADDR·2^8 + DATA` (R67). -/
def makeBusWord (we : Bool) (addr : Addr) (data : Byte) : BitVec 26 :=
  BitVec.ofNat 26 (we.toNat * 2 ^ 25 + addr.toNat * 2 ^ 8 + data.toNat)

/-- The row of a bus word, first match wins (R68); every 26-bit word has one. -/
def decodeBusWord (w : BitVec 26) : Instr :=
  if busWordWe w = false then .rd (busWordAddr w)
  else if busWordAddr w = 0 then
    if busWordData w = 0x01 then .wrCmdExecute
    else if busWordData w = 0x02 then .wrCmdPoll
    else .wrCmdRsvd (busWordData w)
  else if (busWordAddr w).toNat / 2 ^ 8 = 0x001 then
    .wrTxbuf (BitVec.ofNat 8 (busWordAddr w).toNat) (busWordData w)
  else .wrIgnored (busWordAddr w) (busWordData w)

/-! ## Sequencer codes -/

/-- The phase row of a `STATE` code (R16). -/
def decodePhase (c : BitVec 3) : Instr :=
  if c = Machine.phaseIdle then .stateIdle
  else if c = Machine.phasePredrain then .statePredrain
  else if c = Machine.phaseScan then .stateScan
  else if c = Machine.phaseTxsend then .stateTxsend
  else if c = Machine.phaseTxflush then .stateTxflush
  else if c = Machine.phaseRxwait then .stateRxwait
  else if c = Machine.phasePostdrain then .statePostdrain
  else .stateUnused7

/-! ## Frame classes -/

/-- The five classes of R69's two result columns. -/
inductive FrameClass where
  | executeNack
  | executeNotify (id : Byte)
  | executeReply (cmdType : Byte) (id : Byte)
  | pollNotify (id : Byte)
  | pollOther (cmdType : Byte) (id : Byte)
  deriving DecidableEq, Repr

/-- The class of a completed frame by `OP`, command type and command id, first match wins (R69); none
where `OP` is neither EXECUTE nor POLL, for which R107 gives no classification (DEDUCED, log 12). -/
def frameClass (op : BitVec 2) (cmdType id : Byte) : Option FrameClass :=
  if op = Machine.opExecute then
    if cmdType = 0x00 ∧ id = 0x02 then some .executeNack
    else if cmdType = Machine.notifyType then some (.executeNotify id)
    else some (.executeReply cmdType id)
  else if op = Machine.opPoll then
    if cmdType = Machine.notifyType then some (.pollNotify id)
    else some (.pollOther cmdType id)
  else none

/-- The opcode-table row of a frame class. -/
def FrameClass.toInstr : FrameClass → Instr
  | .executeNack => .rxclassExecuteNack
  | .executeNotify id => .rxclassExecuteNotify id
  | .executeReply cmdType id => .rxclassExecuteReply cmdType id
  | .pollNotify id => .rxclassPollNotify id
  | .pollOther cmdType id => .rxclassPollOther cmdType id

/-! ## The decoder on bytes -/

/-- The formats of spec/opcode_table.json. A frame class is read under the operation in progress, since
its rows for EXECUTE and for POLL share their words (R69, log 13). -/
inductive Format where
  | busWord
  | phaseCode
  | frameClass (op : BitVec 2)
  deriving DecidableEq, Repr

/-- Why bytes are no instruction of a format. -/
inductive DecodeError where
  /-- Not as many bytes as the format has. -/
  | wrongLength
  /-- A bit above bit 25 of a bus word is set (R67: a bus word has 26 bits). -/
  | busWordBits
  /-- A bit above bit 2 of a sequencer code is set (R16: STATE has 3 bits). -/
  | phaseCodeBits
  /-- A frame class under an `OP` that is neither EXECUTE nor POLL (R69). -/
  | noOperation
  deriving DecidableEq, Repr

/-- Bytes as one number, the first the least significant. The spec gives a word no byte layout; this is
the opcode table's bit numbering (DESIGN CHOICE, log 13). -/
def numberOfBytes : List Byte → Nat
  | [] => 0
  | b :: bs => b.toNat + 256 * numberOfBytes bs

/-- The `n` low bytes of a number, least significant first. -/
def bytesOfNumber : Nat → Nat → List Byte
  | 0, _ => []
  | n + 1, w => BitVec.ofNat 8 w :: bytesOfNumber n (w / 256)

/-- How many whole bytes a format's words take. -/
def Format.byteCount : Format → Nat
  | .busWord => 4
  | .phaseCode => 1
  | .frameClass _ => 2

/-- The row of a word of a format, total and rejecting by name. -/
def decodeNumber (f : Format) (w : Nat) : Except DecodeError Instr :=
  match f with
  | .busWord => if w < 2 ^ 26 then .ok (decodeBusWord (BitVec.ofNat 26 w)) else .error .busWordBits
  | .phaseCode => if w < 2 ^ 3 then .ok (decodePhase (BitVec.ofNat 3 w)) else .error .phaseCodeBits
  | .frameClass op =>
    match frameClass op (BitVec.ofNat 8 (w / 256)) (BitVec.ofNat 8 w) with
    | some c => .ok c.toInstr
    | none => .error .noOperation

/-- The decoder on bytes. -/
def decode (f : Format) (bytes : List Byte) : Except DecodeError Instr :=
  if bytes.length = f.byteCount then decodeNumber f (numberOfBytes bytes) else .error .wrongLength

/-! ## The encoder -/

/-- The format of a row. -/
def Instr.format : Instr → Format
  | .rd _ | .wrCmdExecute | .wrCmdPoll | .wrCmdRsvd _ | .wrTxbuf _ _ | .wrIgnored _ _ => .busWord
  | .stateIdle | .statePredrain | .stateScan | .stateTxsend | .stateTxflush | .stateRxwait
  | .statePostdrain | .stateUnused7 => .phaseCode
  | .rxclassExecuteNack | .rxclassExecuteNotify _ | .rxclassExecuteReply _ _ =>
    .frameClass Machine.opExecute
  | .rxclassPollNotify _ | .rxclassPollOther _ _ => .frameClass Machine.opPoll

/-- A frame-class word is `TYPE·256 + ID` (spec/opcode_table.json, format RXCLASS16). -/
def makeClassWord (cmdType id : Byte) : Nat := cmdType.toNat * 2 ^ 8 + id.toNat

/-- The word of a row: `match` of spec/opcode_table.json with the operands in their fields. DATA is 0 in
a read (R67). -/
def encodeNumber : Instr → Nat
  | .rd addr => (makeBusWord false addr 0).toNat
  | .wrCmdExecute => (makeBusWord true 0 0x01).toNat
  | .wrCmdPoll => (makeBusWord true 0 0x02).toNat
  | .wrCmdRsvd data => (makeBusWord true 0 data).toNat
  | .wrTxbuf k data => (makeBusWord true (BitVec.ofNat 17 (0x100 + k.toNat)) data).toNat
  | .wrIgnored addr data => (makeBusWord true addr data).toNat
  | .stateIdle => Machine.phaseIdle.toNat
  | .statePredrain => Machine.phasePredrain.toNat
  | .stateScan => Machine.phaseScan.toNat
  | .stateTxsend => Machine.phaseTxsend.toNat
  | .stateTxflush => Machine.phaseTxflush.toNat
  | .stateRxwait => Machine.phaseRxwait.toNat
  | .statePostdrain => Machine.phasePostdrain.toNat
  | .stateUnused7 => 7
  | .rxclassExecuteNack => makeClassWord 0x00 0x02
  | .rxclassExecuteNotify id => makeClassWord Machine.notifyType id
  | .rxclassExecuteReply cmdType id => makeClassWord cmdType id
  | .rxclassPollNotify id => makeClassWord Machine.notifyType id
  | .rxclassPollOther cmdType id => makeClassWord cmdType id

/-- The words of a row as bytes. -/
def encode (i : Instr) : List Byte := bytesOfNumber i.format.byteCount (encodeNumber i)

/-! ## The host's view of the decoder -/

/-- The format whose rows spec/opcode_table.json gives `nbits` bits in whole bytes: 8 for STATE3, 16 for
RXCLASS16, 32 for BUS26. A frame class is read under EXECUTE, whose rows the table lists first (log 13). -/
def tableFormat (nbits : Nat) : Format :=
  if nbits ≤ 8 then .phaseCode
  else if nbits ≤ 16 then .frameClass Machine.opExecute
  else .busWord

/-- The instruction the decoder reads from a word numbered as spec/opcode_table.json numbers its bits. -/
def decodeTableWord (nbits w : Nat) : Option Instr :=
  if w < 2 ^ (8 * (tableFormat nbits).byteCount) then
    match decode (tableFormat nbits) (bytesOfNumber (tableFormat nbits).byteCount w) with
    | .ok i => some i
    | .error _ => none
  else none

end Sys2Proof
end

