-- ==== Sys2Proof/Config.lean ====
section
/-! DEFINITION. The input ports of the DPF (R124), and what an implementation or the environment fixes
and the spec leaves open: the parameter `MAX_PAYLOAD` and the free values. -/

namespace Sys2Proof

/-- The input ports of R124 in one step. `busWide` is the model's own: the host attempts an access
wider than one byte, which R52 and R116 make a model fault (DESIGN CHOICE, log 8). -/
structure Pins where
  rst      : Bool
  busEn    : Bool
  busWe    : Bool
  busAddr  : Addr
  busWdata : Byte
  busWide  : Bool
  rxValid  : Bool
  rxData   : Byte
  txReady  : Bool
  txIdle   : Bool
  tickMs   : Bool
  deriving DecidableEq, Repr, Inhabited

/-- All input ports at 0: no reset, no host access, nothing from the transport, no strobe. -/
def Pins.quiet : Pins :=
  { rst := false, busEn := false, busWe := false, busAddr := 0, busWdata := 0, busWide := false,
    rxValid := false, rxData := 0, txReady := false, txIdle := false, tickMs := false }

/-- `MAX_PAYLOAD − 1` of the implementation: free, since R6 leaves `MAX_PAYLOAD` OPEN (log 3). -/
opaque Config.maxPayloadPred : Fin 65535

/-- `MAX_PAYLOAD` as built: some value of 1..65535 (R6, R7), which one the spec does not say (log 3). -/
def Config.maxPayload : Half := BitVec.ofNat 16 (Config.maxPayloadPred.val + 1)

/-- The inputs of a step that the state's schedule does not list, by step number: any environment at all
(R150 item 4; DESIGN CHOICE, log 1). -/
opaque Config.freePins : Nat → Pins

/-- The byte that a `TXBUF` or `RXBUF` byte with no value presents, by step number: R45's "any value"
(log 4). -/
opaque Config.anyByte : Nat → Byte

/-- The byte that TXSEND hands over from a `TXBUF` byte with no value, by step number. No run comes there
(R86; log 10). -/
opaque Config.anyPush : Nat → Byte

end Sys2Proof
end

