-- ==== Sys2Proof/Machine/State.lean ====
section
/-! DEFINITION. The state of the DPF (R14), the output ports (R124), the reasons a step stops (R116), and
the state after reset (R41, R131). -/

namespace Sys2Proof.Machine

/-- A byte memory as (index, byte) pairs. An index that is not listed holds no value (R41). -/
abbrev Memory := List Host.Cell

/-- What an unlisted index of a byte memory holds: no value (R41: "a reset RAM's contents are
unspecified"). -/
def Memory.unlisted : Option Byte := none

/-- The canonical form of a memory: indices strictly rising. No entry can equal what an unlisted index
holds, since that is no value. -/
abbrev Memory.wf (m : Memory) : Prop := m.Pairwise (fun c d => c.1 < d.1)

/-- The header buffer `HDR[0..5]` by the names of R26. -/
structure Header where
  start    : Byte
  cmdType  : Byte
  cmdId    : Byte
  reserved : Byte
  lenHi    : Byte
  lenLo    : Byte
  deriving DecidableEq, Repr

/-- All six header bytes 0x00 (R26, R73). -/
def Header.zero : Header :=
  { start := 0, cmdType := 0, cmdId := 0, reserved := 0, lenHi := 0, lenLo := 0 }

/-- The output ports of R124 in one step. `bus_rdata` is valid in the step of a read and `tx_data` while
`tx_push = 1`; where they are not valid they have no value here (log 14). -/
structure Ports where
  /-- `bus_rdata`, present in the step of a read. -/
  rdata  : Option Byte
  /-- `rx_pop`. -/
  rxPop  : Bool
  /-- `tx_push`, with `tx_data` where it is 1. -/
  txPush : Option Byte
  deriving DecidableEq, Repr

/-- No output port driven. -/
def Ports.none : Ports := { rdata := Option.none, rxPop := false, txPush := Option.none }

/-- The state of the model: the DPF's registers and memories (R14), the parameter `MAX_PAYLOAD`, the
ports of the latest step, and the model's own record of the environment. -/
structure State where
  /-- `STATE` (R16). -/
  state   : BitVec 3
  /-- `OP` (R19). -/
  op      : BitVec 2
  /-- `SIDX` (R20). -/
  sidx    : BitVec 8
  /-- `TIDX` (R21). -/
  tidx    : BitVec 8
  /-- `TXLEN` (R22). -/
  txlen   : BitVec 8
  /-- `HIDX` (R23). -/
  hidx    : Half
  /-- `PCNT` (R24). -/
  pcnt    : Half
  /-- `DLEN` (R25). -/
  dlen    : Half
  /-- `HDR[0..5]` (R26). -/
  hdr     : Header
  /-- `ELAPSED` (R27). -/
  elapsed : Half
  /-- `DONE` (R29). -/
  done    : Bool
  /-- `OK` (R30). -/
  ok      : Bool
  /-- `NOTIFY` (R31). -/
  notify  : Bool
  /-- `CERR` (R32). -/
  cerr    : Bool
  /-- `CAUSE`, bits 2:0; bits 7:3 read 0 (R33). -/
  cause   : BitVec 3
  /-- `EVENT` (R34). -/
  event   : Byte
  /-- `PLEN` (R35). -/
  plen    : Half
  /-- `TXBUF[0..255]` by index (R38). -/
  txbuf   : Memory
  /-- `RXBUF[0..MAX_PAYLOAD−1]` by index (R39). -/
  rxbuf   : Memory
  /-- The parameter `MAX_PAYLOAD` (R6, R7), which no step changes (log 3). -/
  maxPayload : Half
  /-- MODEL: the input ports sampled in the latest step (R10, R124). -/
  inp     : Pins
  /-- The output ports driven in the latest step (R124). -/
  out     : Ports
  /-- MODEL: how many steps were taken; indexes the free values (log 1, log 4). -/
  cycle   : Nat
  /-- MODEL: the inputs of the coming steps, the next first (R150 item 4, log 1). -/
  schedule : List Pins
  /-- MODEL: the bytes pushed to the transport so far, in push order (R126, R149). -/
  sent    : List Byte
  /-- MODEL: the bytes popped from the transport so far, in order (R125, R149). -/
  taken   : List Byte
  deriving DecidableEq, Repr

/-- The model faults. Each is a stop at a state or input the spec does not define (R116). -/
inductive Fault where
  /-- Raised by the SCAN phase at a `TXBUF` byte with no value (R85, R116). Safe: the spec orders the
  stop. -/
  | unwrittenCommandByte
  /-- Raised at the start of a phase with `STATE = 7` (R17, R116). Safe: no rule writes the code. -/
  | unreachableState
  /-- Raised by a host access wider than one byte (R52, R116). Safe: no rule gives it a meaning. -/
  | wideAccess
  /-- Raised by an input sequence that breaks the transport contract (R116, R125, R126). Safe: the spec
  orders the stop. -/
  | transportContract
  /-- Raised by an append to `RXBUF` at an index `≥ MAX_PAYLOAD`, where there is no byte. R95 and R42
  item 2 say that no run comes there. Safe (log 9). -/
  | rxbufOverrun
  deriving DecidableEq, Repr

/-- Refusals. -/
inductive Refusal where
  /-- Raised by `exec` for a row whose meaning is not written. Safe. Every row has one, so nothing raises
  it. -/
  | notModelled (mnemonic : String)
  deriving DecidableEq, Repr

/-- The state right after reset (R41, R131), with no value in either memory. `maxPayload` is the open
parameter (log 3); the model's own fields start empty (log 5). -/
def State.reset : State where
  state := 0
  op := 0
  sidx := 0
  tidx := 0
  txlen := 0
  hidx := 0
  pcnt := 0
  dlen := 0
  hdr := Header.zero
  elapsed := 0
  done := false
  ok := false
  notify := false
  cerr := false
  cause := 0
  event := 0
  plen := 0
  txbuf := []
  rxbuf := []
  maxPayload := Config.maxPayload
  inp := Pins.quiet
  out := Ports.none
  cycle := 0
  schedule := []
  sent := []
  taken := []

end Sys2Proof.Machine
end

