-- ==== Sys2Proof/Machine/Ops.lean ====
section
/-! DEFINITION. The named operations over memories, ports and registers that the meanings share: buffer
reads and writes, pop and push, acceptance of a command (R73), publication of a result (R118), and the
sub-steps of the receive phase (R89). -/

namespace Sys2Proof.Machine

/-! ## Byte memories -/

/-- The byte at an index, or no value (R41). -/
def Memory.get : Memory → Nat → Option Byte
  | [], _ => Memory.unlisted
  | (k, v) :: m, a => if a = k then some v else Memory.get m a

/-- Write one byte, keeping the indices strictly rising. -/
def Memory.set : Memory → Nat → Byte → Memory
  | [], a, v => [(a, v)]
  | (k, w) :: m, a, v =>
    if a < k then (a, v) :: (k, w) :: m
    else if a = k then (a, v) :: m
    else (k, w) :: Memory.set m a v

/-- `TXBUF[k]`, or no value (R38). -/
def State.txByte (s : State) (k : Nat) : Option Byte := s.txbuf.get k

/-- `RXBUF[k]`, or no value (R39). -/
def State.rxByte (s : State) (k : Nat) : Option Byte := s.rxbuf.get k

/-! ## The header buffer -/

/-- `HDR[k]`, for `k ≤ 5` (R26). -/
def Header.get (h : Header) (k : Nat) : Byte :=
  if k = 0 then h.start
  else if k = 1 then h.cmdType
  else if k = 2 then h.cmdId
  else if k = 3 then h.reserved
  else if k = 4 then h.lenHi
  else h.lenLo

/-- `HDR[k] <- b`, for `k ≤ 5` (R26, R96). -/
def Header.set (h : Header) (k : Nat) (b : Byte) : Header :=
  if k = 0 then { h with start := b }
  else if k = 1 then { h with cmdType := b }
  else if k = 2 then { h with cmdId := b }
  else if k = 3 then { h with reserved := b }
  else if k = 4 then { h with lenHi := b }
  else { h with lenLo := b }

/-! ## Outcomes -/

/-- Go on from a next state; a fault or a refusal stands. -/
def andThen (r : Host.Outcome State Fault Refusal) (f : State → Host.Outcome State Fault Refusal) :
    Host.Outcome State Fault Refusal :=
  match r with
  | .next s => f s
  | .fault e => .fault e
  | .refused e => .refused e

/-! ## Ports -/

/-- `pop()`: assert `rx_pop`, which takes the byte on `rx_data` (R9, R125). -/
def State.pop (s : State) : State :=
  { s with out := { s.out with rxPop := true }, taken := s.taken ++ [s.inp.rxData] }

/-- `push(b)`: assert `tx_push` with `tx_data = b` (R9, R126). -/
def State.push (s : State) (b : Byte) : State :=
  { s with out := { s.out with txPush := some b }, sent := s.sent ++ [b] }

/-- Drive `bus_rdata` (R45, R124). -/
def State.driveRdata (s : State) (b : Byte) : State :=
  { s with out := { s.out with rdata := some b } }

/-! ## Commands and results -/

/-- `ACCEPT(op)` (R73). It also is what clears a published result (R119). -/
def State.accept (s : State) (op : BitVec 2) : State :=
  { s with
    op := op
    done := false, ok := false, notify := false, cerr := false
    cause := causeNone, event := 0, plen := 0, txlen := 0
    hidx := 0, pcnt := 0, dlen := 0, elapsed := 0
    hdr := Header.zero
    sidx := 0, tidx := 0
    state := if op = opExecute then phasePredrain else phaseRxwait }

/-- A refused host write records itself in `CERR` only (R77, R78, R80, R115). -/
def State.refuseWrite (s : State) : State := { s with cerr := true }

/-- Publish the result of a transaction: the four registers of R118's failure entry, which success
writes in exactly the same way. -/
def State.publish (s : State) (cause : BitVec 3) (ok : Bool) (plen : Half) (notify : Bool) : State :=
  { s with cause := cause, ok := ok, plen := plen, notify := notify }

/-! ## The reset step -/

/-- Reset: every register and memory takes its value of R41; the parameter, the ports and the model's
record of the environment stay (R131, R132). -/
def State.resetRegisters (s : State) : State :=
  { State.reset with
    maxPayload := s.maxPayload, inp := s.inp, out := s.out, cycle := s.cycle
    schedule := s.schedule, sent := s.sent, taken := s.taken }

end Sys2Proof.Machine
end

