-- ==== Sys2Proof/Machine/Flags.lean ====
section
/-! DEFINITION. The flags the host reads: `BUSY` (R18) and the `STATUS` byte (R28), and the `NOTIFY` flag
a completed frame computes (R31, R107). -/

namespace Sys2Proof.Machine

/-- `BUSY = (STATE ≠ IDLE)` (R18). -/
def State.busy (s : State) : Bool := decide (s.state ≠ phaseIdle)

/-- `STATUS`: BUSY, DONE, OK, NOTIFY, CERR in bits 0 to 4; bits 7:5 read 0 (R28). -/
def State.status (s : State) : Byte :=
  BitVec.ofNat 8
    (s.busy.toNat + 2 * s.done.toNat + 4 * s.ok.toNat + 8 * s.notify.toNat + 16 * s.cerr.toNat)

/-- `HDR[1] = 0x07` (R31, R107). -/
def Header.isNotification (h : Header) : Bool := decide (h.cmdType = notifyType)

end Sys2Proof.Machine
end

