-- ==== Sys2Proof/Machine/Operands.lean ====
section
/-! DEFINITION. Operand assembly and arithmetic: the halves of a 16-bit register (R51), saturation (R8),
the declared length (R64), the event code (R65) and the terminator test (R98). -/

namespace Sys2Proof.Machine

/-- Bits 15:8, the `_HI` byte (R51). -/
def hiByte (v : Half) : Byte := BitVec.ofNat 8 (v.toNat / 256)

/-- Bits 7:0, the `_LO` byte (R51). -/
def loByte (v : Half) : Byte := BitVec.ofNat 8 v.toNat

/-- `hi ++ lo`, that is `hi·256 + lo` (R8). -/
def joinBytes (hi lo : Byte) : Half := BitVec.ofNat 16 (hi.toNat * 256 + lo.toNat)

/-- `sat16(v + 1)` (R8, R11). -/
def sat16Succ (v : Half) : Half := BitVec.ofNat 16 (min (v.toNat + 1) 0xFFFF)

/-- The declared length `HDR[4] ++ HDR[5]` (R64). -/
def Header.declaredLength (h : Header) : Half := joinBytes h.lenHi h.lenLo

/-- `(id + 1) mod 256`, the event code of a notification (R65). -/
def eventCode (id : Byte) : Byte := BitVec.ofNat 8 ((id.toNat + 1) % 256)

/-- Terminator acceptance: `int(HIDX) − int(DLEN) ≥ 5 and b = 0xFD`, over the integers (R11, R98). -/
def terminates (hidx dlen : Half) (b : Byte) : Bool :=
  decide ((hidx.toNat : Int) - (dlen.toNat : Int) ≥ 5 ∧ b = endByte)

end Sys2Proof.Machine
end

