-- ==== Sys2Proof/Machine/Window.lean ====
section
/-! DEFINITION. The host register window as a read sees it (R44, R45, R47, R48). -/

namespace Sys2Proof.Machine

/-- A buffer byte as the host reads it: its value, or any value where nothing was written (R45; free
value, log 4). -/
def State.bufferRead (s : State) (v : Option Byte) : Byte :=
  match v with
  | some b => b
  | none => Config.anyByte s.cycle

/-- The registers at 0x00000 to 0x0001A and the reserved addresses to 0x000FF (R44, R47). -/
def State.registerRead (s : State) (a : Nat) : Byte :=
  match a with
  | 0x00 => 0x00
  | 0x01 => s.status
  | 0x02 => s.cause.setWidth 8
  | 0x03 => s.event
  | 0x04 => hiByte s.plen
  | 0x05 => loByte s.plen
  | 0x06 => hiByte s.pcnt
  | 0x07 => loByte s.pcnt
  | 0x08 => s.hdr.get 0
  | 0x09 => s.hdr.get 1
  | 0x0A => s.hdr.get 2
  | 0x0B => s.hdr.get 3
  | 0x0C => s.hdr.get 4
  | 0x0D => s.hdr.get 5
  | 0x0E => hiByte s.dlen
  | 0x0F => loByte s.dlen
  | 0x10 => hiByte s.hidx
  | 0x11 => loByte s.hidx
  | 0x12 => s.state.setWidth 8
  | 0x13 => s.op.setWidth 8
  | 0x14 => s.txlen
  | 0x15 => hiByte s.elapsed
  | 0x16 => loByte s.elapsed
  | 0x17 => hiByte (BitVec.ofNat 16 timeoutMs)
  | 0x18 => loByte (BitVec.ofNat 16 timeoutMs)
  | 0x19 => hiByte s.maxPayload
  | 0x1A => loByte s.maxPayload
  | _ => 0x00

/-- `MemRead(addr, 1)`: the byte the table of R44 gives for an address, on the state at the start of the
step (R45). -/
def State.memRead (s : State) (addr : Addr) : Byte :=
  if addr.toNat < 0x100 then s.registerRead addr.toNat
  else if addr.toNat < 0x200 then s.bufferRead (s.txByte (addr.toNat - 0x100))
  else if addr.toNat < 0x10000 then 0x00
  else if addr.toNat - 0x10000 < s.maxPayload.toNat then
    s.bufferRead (s.rxByte (addr.toNat - 0x10000))
  else 0x00

end Sys2Proof.Machine
end

