-- ==== Sys2Proof/Machine/Clock.lean ====
section
/-! DEFINITION. What a step does around the rows it runs: sampling the inputs (R10), the transport contract
(R116, R125, R126), the reset step (R131), and placing a word where the next step runs it. -/

namespace Sys2Proof.Machine

/-- The inputs of the next step: the head of the schedule, or free inputs after its end (log 1). -/
def State.nextPins (s : State) : Pins :=
  match s.schedule with
  | p :: _ => p
  | [] => Config.freePins s.cycle

/-- Start a step: sample the inputs and drive nothing yet. `rx_pop` and `tx_push` are 1 only where a rule
asserts them (R10, R124). -/
def State.sample (s : State) (p : Pins) : State :=
  { s with inp := p, out := Ports.none, cycle := s.cycle + 1, schedule := s.schedule.tail }

/-- The bus word that the bus ports spell (R67, R124). -/
def pinsBusWord (p : Pins) : BitVec 26 := makeBusWord p.busWe p.busAddr p.busWdata

/-- Receive side of the contract: after a step with `rx_valid = 1` and no pop, the same byte is still there
(R116, R125). -/
def receiveContract (s : State) (p : Pins) : Bool :=
  !(s.inp.rxValid && !s.out.rxPop) || (p.rxValid && p.rxData == s.inp.rxData)

/-- Transmit side of the contract: `tx_idle = 0` in the step right after a push (R116, R126). -/
def transmitContract (s : State) (p : Pins) : Bool :=
  !(s.out.txPush.isSome && p.txIdle)

/-- The inputs of a step keep the transport contract, as far as the model can see it (R116). -/
def contractHolds (s : State) (p : Pins) : Bool :=
  receiveContract s p && transmitContract s p

/-- A step with `rst = 1`: R131 alone. The host access is ignored, and a read returns 0x00. -/
def State.resetStep (s : State) (p : Pins) : State :=
  if p.busEn && !p.busWe then (s.sample p).resetRegisters.driveRdata 0x00
  else (s.sample p).resetRegisters

/-- Inputs that keep the transport contract at a state and do nothing else: the transport keeps showing
the byte it showed, is ready for a byte and not idle (log 2). -/
def State.steadyPins (s : State) : Pins :=
  { Pins.quiet with
    rxValid := s.inp.rxValid && !s.out.rxPop
    rxData := s.inp.rxData
    txReady := true }

/-- Insert a step with these inputs before the schedule. -/
def State.insertStep (s : State) (p : Pins) : State :=
  { s with schedule := p :: s.schedule }

/-- The next step's host access is the bus word `w` (R67). -/
def State.placeBusWord (s : State) (w : Nat) : State :=
  s.insertStep
    { s.steadyPins with
      busEn := true
      busWe := busWordWe (BitVec.ofNat 26 w)
      busAddr := busWordAddr (BitVec.ofNat 26 w)
      busWdata := busWordData (BitVec.ofNat 26 w) }

/-- The next step runs the phase of the sequencer code `w` (R16), with no host access. -/
def State.placePhase (s : State) (w : Nat) : State :=
  { s with state := BitVec.ofNat 3 w }.insertStep s.steadyPins

/-- The next step consumes the END byte of an empty frame whose command type and id are the class word `w`,
received by an EXECUTE (R69, R107). The transport's byte is a new one. -/
def State.placeFrameClass (s : State) (w : Nat) : State :=
  { s with
    state := phaseRxwait, op := opExecute, elapsed := 0
    hidx := 6, pcnt := 0, dlen := 0
    hdr := { Header.zero with
      start := startByte, cmdType := BitVec.ofNat 8 (w / 256), cmdId := BitVec.ofNat 8 w }
    inp := { s.inp with rxValid := false } }.insertStep
    { s.steadyPins with rxValid := true, rxData := endByte }

end Sys2Proof.Machine
end

