-- ==== Sys2Proof/Machine/HostOps.lean ====
section
/-! DEFINITION. The meanings of the six bus-word rows (R74 to R81). -/

namespace Sys2Proof.Machine

/-- A command write: accepted when idle (R75, R76), refused while busy (R77). -/
def State.command (s : State) (op : BitVec 2) : State :=
  if s.state = phaseIdle then s.accept op else s.refuseWrite

/-- RD: return `MemRead(ADDR, 1)`; no register changes (R45, R74). -/
def execRd (addr : Addr) (s : State) : Host.Outcome State Fault Refusal :=
  .next (s.driveRdata (s.memRead addr))

/-- WR.CMD.EXECUTE (R75, R77). -/
def execWrCmdExecute (s : State) : Host.Outcome State Fault Refusal :=
  .next (s.command opExecute)

/-- WR.CMD.POLL (R76, R77). -/
def execWrCmdPoll (s : State) : Host.Outcome State Fault Refusal :=
  .next (s.command opPoll)

/-- WR.CMD.RSVD: a reserved code is refused when idle (R78), and any command write while busy (R77). -/
def execWrCmdRsvd (data : Byte) (s : State) : Host.Outcome State Fault Refusal :=
  if s.state = phaseIdle then
    if data ≠ 0x01 ∧ data ≠ 0x02 then .next s.refuseWrite else .next s
  else .next s.refuseWrite

/-- WR.TXBUF: `TXBUF[k] <- v` when idle (R79), refused while busy (R80). -/
def execWrTxbuf (k data : Byte) (s : State) : Host.Outcome State Fault Refusal :=
  if s.state = phaseIdle then .next { s with txbuf := s.txbuf.set k.toNat data }
  else .next s.refuseWrite

/-- WR.IGNORED: no effect on any state, `CERR` included (R81). -/
def execWrIgnored (_addr : Addr) (_data : Byte) (s : State) : Host.Outcome State Fault Refusal :=
  .next s

end Sys2Proof.Machine
end

