-- ==== Sys2Proof/Machine/Completion.lean ====
section
/-! DEFINITION. The end of the receive phase (R107) and the meanings of the five frame-class rows (R108 to
R111). -/

namespace Sys2Proof.Machine

/-- RXCLASS.EXECUTE.NACK: failure with cause NACK, no payload reported; `NOTIFY = 0`, since the command
type is 0x00 (R108). -/
def execRxclassExecuteNack (s : State) : Host.Outcome State Fault Refusal :=
  .next (s.publish causeNack false 0 false)

/-- RXCLASS.EXECUTE.NOTIFY: success, flagged in `NOTIFY`; `EVENT` is not written (R109). -/
def execRxclassExecuteNotify (_id : Byte) (s : State) : Host.Outcome State Fault Refusal :=
  .next (s.publish causeNone true s.dlen true)

/-- RXCLASS.EXECUTE.REPLY: success (R110). -/
def execRxclassExecuteReply (_cmdType _id : Byte) (s : State) :
    Host.Outcome State Fault Refusal :=
  .next (s.publish causeNone true s.dlen false)

/-- RXCLASS.POLL.NOTIFY: success, with the event code of the command id (R65, R111). -/
def execRxclassPollNotify (id : Byte) (s : State) : Host.Outcome State Fault Refusal :=
  .next { s.publish causeNone true s.dlen true with event := eventCode id }

/-- RXCLASS.POLL.OTHER: a frame completed, no event; the NACK pattern is one of these (R111). -/
def execRxclassPollOther (_cmdType _id : Byte) (s : State) :
    Host.Outcome State Fault Refusal :=
  .next { s.publish causeNone true s.dlen false with event := 0 }

/-- The classification of a completed frame by `OP`, `HDR[1]` and `HDR[2]` (R69, R107). Under an `OP` that
no rule writes there is none, and nothing more is written (log 12). -/
def classify (s : State) : Host.Outcome State Fault Refusal :=
  match frameClass s.op s.hdr.cmdType s.hdr.cmdId with
  | some .executeNack => execRxclassExecuteNack s
  | some (.executeNotify id) => execRxclassExecuteNotify id s
  | some (.executeReply cmdType id) => execRxclassExecuteReply cmdType id s
  | some (.pollNotify id) => execRxclassPollNotify id s
  | some (.pollOther cmdType id) => execRxclassPollOther cmdType id s
  | none => .next s

/-- The outcomes of the receive phase (R9, R107). -/
inductive RxOutcome where
  | complete
  | timeout
  | incomplete
  deriving DecidableEq, Repr

/-- `finish_rx(o)` (R107). -/
def finishRx (o : RxOutcome) (s : State) : Host.Outcome State Fault Refusal :=
  match o with
  | .complete => classify { s with state := phasePostdrain, notify := s.hdr.isNotification }
  | .timeout => .next ({ s with state := phasePostdrain }.publish causeTimeout false 0 false)
  | .incomplete => .next ({ s with state := phasePostdrain }.publish causeIncomplete false 0 false)

end Sys2Proof.Machine
end

