-- ==== Sys2Proof/Machine/Receive.lean ====
section
/-! DEFINITION. The receive phase: RXWAIT with its sub-rules in the order of R89, and POSTDRAIN (R101). -/

namespace Sys2Proof.Machine

/-- `tick()`: count a millisecond strobe (R91). -/
def State.tick (s : State) : State :=
  if s.inp.tickMs then { s with elapsed := sat16Succ s.elapsed } else s

/-- Frame resynchronizer: a 0xFE restarts both counters, and not `DLEN` (R94). -/
def State.resync (s : State) (b : Byte) : State :=
  if b = startByte then { s with hidx := 0, pcnt := 0 } else s

/-- Payload capture: append the byte while fewer than `DLEN` are captured (R95). None where `RXBUF` has no
byte at `PCNT` (log 9). -/
def State.capturePayload (s : State) (b : Byte) : Option State :=
  if s.dlen ≠ 0 ∧ s.pcnt.toNat < s.dlen.toNat then
    if s.pcnt.toNat < s.maxPayload.toNat then
      some { s with rxbuf := s.rxbuf.set s.pcnt.toNat b, pcnt := s.pcnt + 1 }
    else none
  else some s

/-- Header capture: `HDR[HIDX] <- b` while `HIDX ≤ 5` (R96). -/
def State.captureHeader (s : State) (b : Byte) : State :=
  if s.hidx.toNat ≤ 5 then { s with hdr := s.hdr.set s.hidx.toNat b } else s

/-- Length latch at `HIDX = 5` (R97). -/
def State.latchLength (s : State) : State :=
  if s.hidx.toNat = 5 then { s with dlen := s.hdr.declaredLength } else s

/-- The end of a byte's processing: terminator test (R98), counter advance (R99), payload ceiling (R100),
strobe (R91). -/
def closeByte (b : Byte) (s : State) : Host.Outcome State Fault Refusal :=
  if terminates s.hidx s.dlen b then finishRx .complete s
  else if s.maxPayload.toNat ≤ s.pcnt.toNat then
    finishRx .incomplete { s with hidx := sat16Succ s.hidx }
  else .next { s with hidx := sat16Succ s.hidx }.tick

/-- Every consumed byte goes through R94 to R100 in that order (R93). -/
def processByte (b : Byte) (s : State) : Host.Outcome State Fault Refusal :=
  match (s.resync b).capturePayload b with
  | none => .fault .rxbufOverrun
  | some t => closeByte b (t.captureHeader b).latchLength

/-- STATE.RXWAIT (R89): deadline test (R90), idle step (R92), or one byte (R93). -/
def execStateRxwait (s : State) : Host.Outcome State Fault Refusal :=
  if timeoutMs ≤ s.elapsed.toNat then finishRx .timeout s
  else if s.inp.rxValid then processByte s.inp.rxData s.pop
  else .next s.tick

/-- STATE.POSTDRAIN: discard the head byte, or end the transaction when there is none (R101). -/
def execStatePostdrain (s : State) : Host.Outcome State Fault Refusal :=
  if s.inp.rxValid then .next s.pop
  else .next { s with done := true, state := phaseIdle }

end Sys2Proof.Machine
end

