-- ==== Sys2Proof/Machine/Transmit.lean ====
section
/-! DEFINITION. The meanings of the phases of an EXECUTE before reception (R84 to R87), of IDLE (R82) and
of the unused sequencer code (R17). -/

namespace Sys2Proof.Machine

/-- STATE.IDLE: the DPF's own rule does nothing (R82). -/
def execStateIdle (s : State) : Host.Outcome State Fault Refusal :=
  .next s

/-- STATE.PREDRAIN: discard the head byte, or enter SCAN when there is none (R84). -/
def execStatePredrain (s : State) : Host.Outcome State Fault Refusal :=
  if s.inp.rxValid then .next s.pop
  else .next { s with sidx := 0, state := phaseScan }

/-- The end of a scan that found no sentinel: BADCMD (R85, R114). -/
def State.badCommand (s : State) : State :=
  { s.publish causeBadcmd false 0 false with done := true, state := phaseIdle }

/-- STATE.SCAN: examine one command byte (R85). An unwritten byte is the model fault of R116. -/
def execStateScan (s : State) : Host.Outcome State Fault Refusal :=
  match s.txByte s.sidx.toNat with
  | none => .fault .unwrittenCommandByte
  | some b =>
    if b = endByte then .next { s with txlen := s.sidx + 1, tidx := 0, state := phaseTxsend }
    else if s.sidx.toNat = txScanLimit - 1 then .next s.badCommand
    else .next { s with sidx := s.sidx + 1 }

/-- STATE.TXSEND: hand one frame byte to the transport when it is ready (R86). The byte always has a value
in a reachable state (R86); elsewhere it is a free value (log 10). The comparison is over the integers
(R11). -/
def execStateTxsend (s : State) : Host.Outcome State Fault Refusal :=
  if s.inp.txReady then
    .next { s.push ((s.txByte s.tidx.toNat).getD (Config.anyPush s.cycle)) with
      tidx := s.tidx + 1
      state := if s.tidx.toNat + 1 = s.txlen.toNat then phaseTxflush else s.state }
  else .next s

/-- STATE.TXFLUSH: wait until every pushed byte is physically sent (R87). -/
def execStateTxflush (s : State) : Host.Outcome State Fault Refusal :=
  if s.inp.txIdle then .next { s with state := phaseRxwait } else .next s

/-- STATE.UNUSED7: the model fault of R17 and R116. -/
def execStateUnused7 (_s : State) : Host.Outcome State Fault Refusal :=
  .fault .unreachableState

end Sys2Proof.Machine
end

