-- ==== Sys2Proof/Machine/Dispatch.lean ====
section
/-! DEFINITION. The meaning of every row of spec/opcode_table.json, one arm per constructor. -/

namespace Sys2Proof.Machine

def exec (i : Instr) (s : State) : Host.Outcome State Fault Refusal :=
  match i with
  | .rd addr => Sys2Proof.Machine.execRd addr s
  | .wrCmdExecute => Sys2Proof.Machine.execWrCmdExecute s
  | .wrCmdPoll => Sys2Proof.Machine.execWrCmdPoll s
  | .wrCmdRsvd data => Sys2Proof.Machine.execWrCmdRsvd data s
  | .wrTxbuf k data => Sys2Proof.Machine.execWrTxbuf k data s
  | .wrIgnored addr data => Sys2Proof.Machine.execWrIgnored addr data s
  | .stateIdle => Sys2Proof.Machine.execStateIdle s
  | .statePredrain => Sys2Proof.Machine.execStatePredrain s
  | .stateScan => Sys2Proof.Machine.execStateScan s
  | .stateTxsend => Sys2Proof.Machine.execStateTxsend s
  | .stateTxflush => Sys2Proof.Machine.execStateTxflush s
  | .stateRxwait => Sys2Proof.Machine.execStateRxwait s
  | .statePostdrain => Sys2Proof.Machine.execStatePostdrain s
  | .stateUnused7 => Sys2Proof.Machine.execStateUnused7 s
  | .rxclassExecuteNack => Sys2Proof.Machine.execRxclassExecuteNack s
  | .rxclassExecuteNotify id => Sys2Proof.Machine.execRxclassExecuteNotify id s
  | .rxclassExecuteReply cmdType id => Sys2Proof.Machine.execRxclassExecuteReply cmdType id s
  | .rxclassPollNotify id => Sys2Proof.Machine.execRxclassPollNotify id s
  | .rxclassPollOther cmdType id => Sys2Proof.Machine.execRxclassPollOther cmdType id s

end Sys2Proof.Machine
end

