-- ==== Sys2Proof/Machine/Step.lean ====
section
/-! DEFINITION. One step of the DPF (R10): reset, or the host access and the phase rule of the step. -/

namespace Sys2Proof.Machine

/-- The host access of a step, if there is one (R83). -/
def hostAccess (p : Pins) (s : State) : Host.Outcome State Fault Refusal :=
  if p.busEn then exec (decodeBusWord (pinsBusWord p)) s else .next s

/-- One rising edge of `clk` (R10), in the order of R117: reset overrides everything (log 6); then the
model faults of the inputs (R116, log 7); then the host access and the rule of the phase that `STATE` held
at the start of the step (R83). The host access changes nothing that a phase rule of the same step reads,
so running it first leaves the phase rule the state at the start of the step. -/
def step (s : State) : Host.Outcome State Fault Refusal :=
  if s.nextPins.rst then .next (s.resetStep s.nextPins)
  else if !contractHolds s s.nextPins then .fault .transportContract
  else if s.nextPins.busEn && s.nextPins.busWide then .fault .wideAccess
  else andThen (hostAccess s.nextPins (s.sample s.nextPins)) (exec (decodePhase s.state))

/-- Place a word of spec/opcode_table.json so that the next step runs it (log 2): a bus word as the next
step's host access, a sequencer code in `STATE`, a frame class as the frame the next step completes. -/
def State.withFetchWord (s : State) (nbits w : Nat) : State :=
  match tableFormat nbits with
  | .busWord => s.placeBusWord w
  | .phaseCode => s.placePhase w
  | .frameClass _ => s.placeFrameClass w

end Sys2Proof.Machine
end

