-- ==== Sys2Proof/Machine/HostProgram.lean ====
section
/-! DEFINITION. The host's side: host programs in the notation of R72, the bus words they expand to, and a
run of a host program (R149). None of this is a rule of the DPF; it drives the DPF's ports. -/

namespace Sys2Proof.Machine

/-- What a host does next: one access, its own polling loop (R72), or a step without an access (R83: at most
one access a step). The forms of R72 expand to the first two; a host program puts pauses between them. -/
inductive HostAct where
  /-- One access, as a bus word (R67). -/
  | access (w : BitVec 26)
  /-- `WAITIDLE`: read STATUS until bit 0 of the value read is 0, at least once. -/
  | waitIdle
  /-- One step without an access. -/
  | pause
  deriving DecidableEq, Repr

/-- The forms of R72. -/
inductive HostOp where
  /-- `WR a, v`. -/
  | wr (addr : Addr) (data : Byte)
  /-- `RD a`. -/
  | rd (addr : Addr)
  /-- `LOADTX b0, b1, ..., bn`. -/
  | loadTx (bytes : List Byte)
  /-- `WAITIDLE`. -/
  | waitIdle
  /-- `EXEC`. -/
  | exec
  /-- `POLLEV`. -/
  | pollEv
  deriving DecidableEq, Repr

/-- The writes of `LOADTX` from index `k` on (R72). -/
def loadTxWords : Nat → List Byte → List HostAct
  | _, [] => []
  | k, b :: bs => .access (makeBusWord true (BitVec.ofNat 17 (0x100 + k)) b) :: loadTxWords (k + 1) bs

/-- The expansion of a form (R72). -/
def HostOp.expand : HostOp → List HostAct
  | .wr addr data => [.access (makeBusWord true addr data)]
  | .rd addr => [.access (makeBusWord false addr 0)]
  | .loadTx bytes => loadTxWords 0 bytes
  | .waitIdle => [.waitIdle]
  | .exec => [.access (makeBusWord true 0 0x01), .waitIdle]
  | .pollEv => [.access (makeBusWord true 0 0x02), .waitIdle]

/-- The access a host makes in its next step, none where it makes no access. -/
def hostWord : List HostAct → Option (BitVec 26)
  | [] => none
  | .access w :: _ => some w
  | .waitIdle :: _ => some (makeBusWord false 0x00001 0)
  | .pause :: _ => none

/-- What a host has left to do after a step that returned `rdata`. -/
def hostNext (acts : List HostAct) (rdata : Option Byte) : List HostAct :=
  match acts with
  | [] => []
  | .access _ :: rest => rest
  | .pause :: rest => rest
  | .waitIdle :: rest =>
    match rdata with
    | some v => if v.getLsbD 0 then .waitIdle :: rest else rest
    | none => .waitIdle :: rest

/-- The host has made its last access: nothing but pauses is left (R149). -/
def hostDone (acts : List HostAct) : Bool := acts.all (fun a => a = .pause)

/-- The ports of a step whose environment is `env` and whose host access is `w` (R67, R124). -/
def pinsWithHost (env : Pins) (w : Option (BitVec 26)) : Pins :=
  match w with
  | none => { env with busEn := false }
  | some w =>
    { env with
      busEn := true, busWe := busWordWe w, busAddr := busWordAddr w, busWdata := busWordData w }

/-- A run (R149): the host's accesses with the environment inputs of every step. It ends at the first step,
at or after the host's last access, whose end state has `STATE = IDLE`; `none` if the inputs end first. -/
def runProgram : List HostAct → List Pins → State → Host.Outcome (Option State) Fault Refusal
  | _, [], _ => .next none
  | acts, e :: env, s =>
    match step { s with schedule := [pinsWithHost e (hostWord acts)] } with
    | .fault r => .fault r
    | .refused r => .refused r
    | .next t =>
      if hostDone (hostNext acts t.out.rdata) ∧ t.state = phaseIdle then .next (some t)
      else runProgram (hostNext acts t.out.rdata) env t

end Sys2Proof.Machine
end

