-- ==== Sys2Proof/Safety.lean ====
section
/-! DEFINITION. What claims about the DPF are stated in: the invariants of reachable states (R42 and the
rules it rests on), the premises and the end of a run (R149, R150), and the host-visible result (R112,
R113). -/

namespace Sys2Proof.Machine

/-- The reachable-state invariants. The items of R42 are cited by number; the others are what the rules
say beside them, and what makes the whole inductive. -/
structure State.Inv (s : State) : Prop where
  /-- `1 ≤ MAX_PAYLOAD` (R7). -/
  parameter : s.maxPayload ≠ 0
  /-- Item 8: `STATE ≠ 7`. -/
  phase : s.state ≠ 7
  /-- `OP` code 3 is never written (R19). -/
  operation : s.op ≠ 3
  /-- `CAUSE` codes 5 to 7 are never written (R33). -/
  causeCode : s.cause.toNat ≤ 4
  /-- A busy DPF runs an EXECUTE or a POLL (R73). -/
  busyOperation : s.state ≠ phaseIdle → s.op = opExecute ∨ s.op = opPoll
  /-- POLL runs none of the transmit phases (R76), and `TXLEN` stays 0 for it (R22). -/
  pollPhases : s.op = opPoll →
    (s.state = phaseIdle ∨ s.state = phaseRxwait ∨ s.state = phasePostdrain) ∧ s.txlen = 0
  /-- The receive counters are still 0 from ACCEPT in the transmit phases (R87). -/
  countersClear :
    s.state = phasePredrain ∨ s.state = phaseScan ∨ s.state = phaseTxsend ∨ s.state = phaseTxflush →
    s.hidx = 0 ∧ s.pcnt = 0 ∧ s.dlen = 0 ∧ s.elapsed = 0
  /-- The scan examines indices 0 to 254 (R20) and has passed no 0xFD (R85). -/
  scanIndex : s.state = phaseScan →
    s.sidx.toNat < txScanLimit ∧ ∀ k < s.sidx.toNat, ∃ b, s.txByte k = some b ∧ b ≠ endByte
  /-- Item 4: in TXSEND, `TIDX < TXLEN`. -/
  sendIndex : s.state = phaseTxsend → s.tidx.toNat < s.txlen.toNat
  /-- Item 4 and R88: the frame in transmission ends with the first 0xFD of `TXBUF`. -/
  frame : s.state = phaseTxsend ∨ s.state = phaseTxflush →
    1 ≤ s.txlen.toNat ∧ s.txByte (s.txlen.toNat - 1) = some endByte ∧
      ∀ k < s.txlen.toNat - 1, ∃ b, s.txByte k = some b ∧ b ≠ endByte
  /-- Item 2: in RXWAIT, `PCNT < MAX_PAYLOAD`. -/
  belowCeiling : s.state = phaseRxwait → s.pcnt.toNat < s.maxPayload.toNat
  /-- Item 3: `PCNT ≤ MAX_PAYLOAD`. -/
  ceiling : s.pcnt.toNat ≤ s.maxPayload.toNat
  /-- The deadline test bounds `ELAPSED` (R90, R91). -/
  deadline : s.elapsed.toNat ≤ timeoutMs
  /-- Past the header, every byte was appended while `PCNT < DLEN` (R103). -/
  captured : s.state = phaseRxwait → 6 ≤ s.hidx.toNat →
    min s.dlen.toNat (s.hidx.toNat - 6) ≤ s.pcnt.toNat
  /-- Item 5. -/
  okFlag : s.ok = true → s.cause = causeNone ∧
    (s.state = phasePostdrain ∨ (s.state = phaseIdle ∧ s.done = true))
  /-- `DONE` is set only in the step that returns to IDLE, and cleared at acceptance (R29). -/
  doneFlag : s.done = true → s.state = phaseIdle
  /-- A transaction in progress has published no cause (R33). -/
  causeFlag : s.cause ≠ causeNone → s.state = phasePostdrain ∨ s.state = phaseIdle
  /-- `NOTIFY = 1` only after a completed frame of type 0x07, which is a success (R31, R109, R111). -/
  notifyFlag : s.notify = true → s.ok = true
  /-- Item 6. -/
  eventFlag : s.event ≠ 0 → s.op = opPoll ∧ s.ok = true ∧ s.notify = true
  /-- Item 7. -/
  payloadLength : s.plen ≠ 0 → s.ok = true ∧ s.plen = s.dlen ∧
    s.dlen.toNat ≤ s.maxPayload.toNat ∧ s.dlen.toNat ≤ s.pcnt.toNat
  /-- The first `PCNT` payload bytes have a value (R24, R95). -/
  payloadWritten : ∀ k < s.pcnt.toNat, (s.rxByte k).isSome
  /-- `TXBUF` has 256 bytes (R38). -/
  txbufSized : ∀ k, txbufSize ≤ k → s.txByte k = none
  /-- `RXBUF` has `MAX_PAYLOAD` bytes (R39). -/
  rxbufSized : ∀ k, s.maxPayload.toNat ≤ k → s.rxByte k = none
  /-- `TXBUF` is in canonical form. -/
  txbufForm : Memory.wf s.txbuf
  /-- `RXBUF` is in canonical form. -/
  rxbufForm : Memory.wf s.rxbuf

/-- A launch from the reset state (R150): the parameter and the input schedule are premises of the run. -/
def State.launch (maxPayload : Half) (inputs : List Pins) : State :=
  { State.reset with maxPayload := maxPayload, schedule := inputs }

/-- The step from `s` to `t` ends a transaction (R149): it sets `DONE` and returns to IDLE. -/
def endsTransaction (s t : State) : Prop :=
  s.state ≠ phaseIdle ∧ t.state = phaseIdle ∧ t.done = true

/-- The bytes the transport presents in a stretch of steps, in order (R125). -/
def receivedBytes (ps : List Pins) : List Byte :=
  ps.filterMap (fun p => if p.rxValid then some p.rxData else none)

/-- The millisecond strobes in a stretch of steps (R123). -/
def strobes (ps : List Pins) : Nat := ps.countP (fun p => p.tickMs)

/-- A stretch of steps without a reset and without a host access. -/
def Undisturbed (ps : List Pins) : Prop := ∀ p ∈ ps, p.rst = false ∧ p.busEn = false

/-- `n` applications of one row's meaning, stopping at the first fault or refusal. -/
def execTimes (i : Instr) : Nat → State → Host.Outcome State Fault Refusal
  | 0, s => .next s
  | n + 1, s => andThen (exec i s) (execTimes i n)

/-- The payload reported to the host, `RXBUF[0..PLEN−1]` (R35). -/
def State.payload (s : State) : List (Option Byte) := (List.range s.plen.toNat).map s.rxByte

/-- `execute(commandBuffer) → (success, payload, payloadLength)`, read while `BUSY = 0` (R112). -/
def State.executeResult (s : State) : Bool × List (Option Byte) × Half := (s.ok, s.payload, s.plen)

/-- `pollEvent() → eventCode`, read while `BUSY = 0` (R113). -/
def State.pollResult (s : State) : Byte := s.event

/-- The command frame of `TXBUF`: its bytes up to and including the first 0xFD of the scanned indices from
`k` on (R63, R85), none where the scan would meet an unwritten byte or no sentinel. -/
def State.frameFrom (s : State) : Nat → Nat → Option (List Byte)
  | 0, _ => none
  | n + 1, k =>
    match s.txByte k with
    | none => none
    | some b => if b = endByte then some [b] else (s.frameFrom n (k + 1)).map (b :: ·)

/-- The frame an EXECUTE transmits (R63, R88). -/
def State.commandFrame (s : State) : Option (List Byte) := s.frameFrom txScanLimit 0

end Sys2Proof.Machine
end

