-- ==== Sys2Proof/Certificates/Slice0/Obligations.lean ====
section
/-! DEFINITION. The statements for the provers. Each docstring names the rule of spec/ it formalises. A
statement about an instruction gives its whole next state, so that what it leaves unchanged is stated too:
every field the record update does not name. -/

open Sys2Proof Sys2Proof.Machine

/-! ## Encodings -/

/-- Every well-formed row decodes from its own encoding, with every operand at every value (R16, R67, R68,
R69). -/
def Obligations.DecodeEncodeAgree : Prop :=
  ∀ i : Instr, i.WellFormed → decode i.format (encode i) = .ok i

/-- R68: every 26-bit word has a row; the row is well formed, so no earlier row matches it, and it encodes
back to the word, DATA of a read apart (R67). -/
def Obligations.EveryBusWordHasItsRow : Prop :=
  ∀ w : BitVec 26,
    (decodeBusWord w).format = .busWord ∧ (decodeBusWord w).WellFormed ∧
      encodeNumber (decodeBusWord w) = if busWordWe w then w.toNat else w.toNat / 2 ^ 8 * 2 ^ 8

/-- R69: under EXECUTE and under POLL every command type and id has a class; its row is well formed, belongs
to that operation, and encodes back to the type and id. -/
def Obligations.EveryFrameHasItsClass : Prop :=
  ∀ (op : BitVec 2) (cmdType id : Byte), op = opExecute ∨ op = opPoll →
    ∃ c, frameClass op cmdType id = some c ∧ c.toInstr.format = .frameClass op ∧
      c.toInstr.WellFormed ∧ encodeNumber c.toInstr = makeClassWord cmdType id

/-- Words of R16, R66, R67 and R69 decode to the rows they stand for. The words' bits are the spec's. That a word's
bytes come least significant first, and that a class word is read under an operation given beside it, is the
model's choice (DESIGN CHOICE, log 13): the spec gives a word no byte layout. -/
def Obligations.WrittenWordsDecode : Prop :=
  decode .busWord [0x00, 0x03, 0x00, 0x01] = .ok (.rd 0x10003) ∧
  decode .busWord [0x01, 0x00, 0x00, 0x02] = .ok .wrCmdExecute ∧
  decode .busWord [0x02, 0x00, 0x00, 0x02] = .ok .wrCmdPoll ∧
  decode .busWord [0x03, 0x00, 0x00, 0x02] = .ok (.wrCmdRsvd 0x03) ∧
  decode .busWord [0xFE, 0x00, 0x01, 0x02] = .ok (.wrTxbuf 0x00 0xFE) ∧
  decode .busWord [0xFF, 0x01, 0x00, 0x02] = .ok (.wrIgnored 0x00001 0xFF) ∧
  decode .phaseCode [0x05] = .ok .stateRxwait ∧
  decode (.frameClass opExecute) [0x02, 0x00] = .ok .rxclassExecuteNack ∧
  decode (.frameClass opPoll) [0x06, 0x07] = .ok (.rxclassPollNotify 0x06)

/-! ## The step -/

/-- R10, R83: in a step without reset, contract breach or wide access, the step is the meaning of the decoded
host access and then of the phase row that `STATE` decodes to at the start of the step, on the state with
the step's inputs sampled. With no host access it is the phase row alone, and in IDLE the host access
alone. -/
def Obligations.StepRunsDecodedRows : Prop :=
  ∀ (s : State) (i : Instr), s.nextPins.rst = false → contractHolds s s.nextPins = true →
    (s.nextPins.busEn = true → s.nextPins.busWide = false) →
    decode .phaseCode [s.state.setWidth 8] = .ok i →
    (s.nextPins.busEn = false → step s = exec i (s.sample s.nextPins)) ∧
    (∀ h, s.nextPins.busEn = true →
      decode .busWord (bytesOfNumber 4 (pinsBusWord s.nextPins).toNat) = .ok h →
      step s = andThen (exec h (s.sample s.nextPins)) (exec i) ∧
      (s.state = phaseIdle → step s = exec h (s.sample s.nextPins)))

/-- R83: in a step with `STATE ≠ IDLE`, a command or TXBUF write changes only `CERR`, and the phase rule's
writes happen as if no host access occurred. -/
def Obligations.RefusedWriteLeavesPhaseRule : Prop :=
  ∀ (s : State) (h i : Instr), s.state ≠ phaseIdle →
    (h = .wrCmdExecute ∨ h = .wrCmdPoll ∨ (∃ v, h = .wrCmdRsvd v) ∨ ∃ k v, h = .wrTxbuf k v) →
    i.format = .phaseCode →
    andThen (exec h s) (exec i) = andThen (exec i s) (fun t => .next { t with cerr := true })

/-- R54, R56: a read returns the byte of the state at the start of the step, and changes nothing of what
the phase rule of the same step does. -/
def Obligations.ReadLeavesPhaseRule : Prop :=
  ∀ (s : State) (addr : Addr) (i : Instr), i.format = .phaseCode →
    andThen (exec (.rd addr) s) (exec i) =
      andThen (exec i s) (fun t => .next (t.driveRdata (s.memRead addr)))

/-- R131, R117 item 1: with `rst = 1` the step performs the reset and nothing else, whatever the state and
the other inputs: every register and memory takes its value of R41, no port is driven but a read's 0x00. The
parameter, the step's record of the environment, and what the transport holds or has sent, stay (R132). -/
def Obligations.ResetOverridesEverything : Prop :=
  ∀ s : State, s.nextPins.rst = true →
    step s = .next { State.reset with
      maxPayload := s.maxPayload, inp := s.nextPins
      out := { Ports.none with
        rdata := if s.nextPins.busEn = true ∧ s.nextPins.busWe = false then some 0x00 else none }
      cycle := s.cycle + 1, schedule := s.schedule.tail, sent := s.sent, taken := s.taken }

/-- R41: the reset values of every register and memory. -/
def Obligations.ResetValues : Prop :=
  State.reset.state = phaseIdle ∧ State.reset.op = 0 ∧ State.reset.sidx = 0 ∧ State.reset.tidx = 0 ∧
  State.reset.txlen = 0 ∧ State.reset.hidx = 0 ∧ State.reset.pcnt = 0 ∧ State.reset.dlen = 0 ∧
  State.reset.elapsed = 0 ∧ (∀ k ≤ 5, State.reset.hdr.get k = 0x00) ∧ State.reset.done = false ∧
  State.reset.ok = false ∧ State.reset.notify = false ∧ State.reset.cerr = false ∧
  State.reset.cause = causeNone ∧ State.reset.event = 0 ∧ State.reset.plen = 0 ∧
  (∀ k, State.reset.txByte k = none) ∧ (∀ k, State.reset.rxByte k = none)

/-- R116, R125, R126: the step stops with TransportContract exactly when, with no reset, `rx_data` changed or
`rx_valid` fell after a step with `rx_valid = 1` and no pop, or `tx_idle = 1` right after a push. That a reset
step checks nothing is the model's reading of R117 (log 6). -/
def Obligations.TransportContractFault : Prop :=
  ∀ s : State, step s = .fault .transportContract ↔
    s.nextPins.rst = false ∧
      ((s.inp.rxValid = true ∧ s.out.rxPop = false ∧
          (s.nextPins.rxValid = false ∨ s.nextPins.rxData ≠ s.inp.rxData)) ∨
        (s.out.txPush ≠ none ∧ s.nextPins.txIdle = true))

/-- R116: in a step without reset that keeps the transport contract, the other model faults of the spec
happen exactly on their conditions: a wide access; else `STATE = 7`; else SCAN at an unwritten byte. Which
of two comes first is the model's choice (log 7). -/
def Obligations.ModelFaultConditions : Prop :=
  ∀ s : State, s.nextPins.rst = false → contractHolds s s.nextPins = true →
    (step s = .fault .wideAccess ↔ s.nextPins.busEn = true ∧ s.nextPins.busWide = true) ∧
    (step s = .fault .unreachableState ↔
      (s.nextPins.busEn = true → s.nextPins.busWide = false) ∧ s.state = 7) ∧
    (step s = .fault .unwrittenCommandByte ↔
      (s.nextPins.busEn = true → s.nextPins.busWide = false) ∧ s.state = phaseScan ∧
        s.txByte s.sidx.toNat = none)

/-! ## Host operations -/

/-- R45, R74: a read returns the byte of the window and changes no register and no memory. -/
def Obligations.ReadReturnsWindowByte : Prop :=
  ∀ (addr : Addr) (s : State),
    exec (.rd addr) s = .next { s with out := { s.out with rdata := some (s.memRead addr) } }

/-- R44, R47, R48: what the window shows at every address whose byte has a value. -/
def Obligations.WindowContents : Prop :=
  ∀ s : State,
    s.memRead 0x00000 = 0 ∧
    (∀ i, (s.memRead 0x00001).getLsbD i =
      (decide (i = 0) && s.busy || decide (i = 1) && s.done || decide (i = 2) && s.ok ||
        decide (i = 3) && s.notify || decide (i = 4) && s.cerr)) ∧
    (s.memRead 0x00002).toNat = s.cause.toNat ∧ s.memRead 0x00003 = s.event ∧
    joinBytes (s.memRead 0x00004) (s.memRead 0x00005) = s.plen ∧
    joinBytes (s.memRead 0x00006) (s.memRead 0x00007) = s.pcnt ∧
    (∀ k ≤ 5, s.memRead (BitVec.ofNat 17 (0x00008 + k)) = s.hdr.get k) ∧
    joinBytes (s.memRead 0x0000E) (s.memRead 0x0000F) = s.dlen ∧
    joinBytes (s.memRead 0x00010) (s.memRead 0x00011) = s.hidx ∧
    (s.memRead 0x00012).toNat = s.state.toNat ∧ (s.memRead 0x00013).toNat = s.op.toNat ∧
    s.memRead 0x00014 = s.txlen ∧
    joinBytes (s.memRead 0x00015) (s.memRead 0x00016) = s.elapsed ∧
    joinBytes (s.memRead 0x00017) (s.memRead 0x00018) = 200 ∧
    joinBytes (s.memRead 0x00019) (s.memRead 0x0001A) = s.maxPayload ∧
    (∀ a : Addr, (0x1B ≤ a.toNat ∧ a.toNat ≤ 0xFF) ∨ (0x200 ≤ a.toNat ∧ a.toNat ≤ 0xFFFF) →
      s.memRead a = 0) ∧
    (∀ k < 256, ∀ v, s.txByte k = some v → s.memRead (BitVec.ofNat 17 (0x100 + k)) = v) ∧
    (∀ k < s.maxPayload.toNat, ∀ v, s.rxByte k = some v →
      s.memRead (BitVec.ofNat 17 (0x10000 + k)) = v) ∧
    (∀ k < 65536, s.maxPayload.toNat ≤ k → s.memRead (BitVec.ofNat 17 (0x10000 + k)) = 0)

/-- R73, R75: an EXECUTE written in IDLE is accepted: every register ACCEPT names takes its value; TXBUF,
RXBUF and everything else stay. -/
def Obligations.ExecuteAccepted : Prop :=
  ∀ s : State, s.state = phaseIdle →
    exec .wrCmdExecute s = .next { s with
      op := 1, done := false, ok := false, notify := false, cerr := false, cause := 0, event := 0
      plen := 0, txlen := 0, hidx := 0, pcnt := 0, dlen := 0, elapsed := 0
      hdr := { start := 0, cmdType := 0, cmdId := 0, reserved := 0, lenHi := 0, lenLo := 0 }
      sidx := 0, tidx := 0, state := 1 }

/-- R73, R76: a POLL written in IDLE is accepted and goes to RXWAIT: it discards no buffered input. -/
def Obligations.PollAccepted : Prop :=
  ∀ s : State, s.state = phaseIdle →
    exec .wrCmdPoll s = .next { s with
      op := 2, done := false, ok := false, notify := false, cerr := false, cause := 0, event := 0
      plen := 0, txlen := 0, hidx := 0, pcnt := 0, dlen := 0, elapsed := 0
      hdr := { start := 0, cmdType := 0, cmdId := 0, reserved := 0, lenHi := 0, lenLo := 0 }
      sidx := 0, tidx := 0, state := 5 }

/-- R77, R80: while busy, every command write and every TXBUF write sets `CERR` and changes nothing else. -/
def Obligations.BusyWritesRefused : Prop :=
  ∀ (s : State) (h : Instr), s.state ≠ phaseIdle →
    (h = .wrCmdExecute ∨ h = .wrCmdPoll ∨ (∃ v, h = .wrCmdRsvd v) ∨ ∃ k v, h = .wrTxbuf k v) →
    exec h s = .next { s with cerr := true }

/-- R78: a reserved command code written in IDLE sets `CERR` and changes nothing else. -/
def Obligations.ReservedCommandRefused : Prop :=
  ∀ (s : State) (v : Byte), s.state = phaseIdle → v ≠ 0x01 ∧ v ≠ 0x02 →
    exec (.wrCmdRsvd v) s = .next { s with cerr := true }

/-- R79: in IDLE, `TXBUF[k] <- v`: that byte, no other byte of either memory, and no register. -/
def Obligations.CommandByteWritten : Prop :=
  ∀ (s : State) (k v : Byte), s.state = phaseIdle →
    ∃ m, exec (.wrTxbuf k v) s = .next { s with txbuf := m } ∧
      m.get k.toNat = some v ∧ ∀ j, j ≠ k.toNat → m.get j = s.txByte j

/-- R45, R79: a command byte written in IDLE is what a later read of its address returns, and every other
address reads as before. -/
def Obligations.CommandByteReadsBack : Prop :=
  ∀ (s t : State) (k v : Byte), s.state = phaseIdle → exec (.wrTxbuf k v) s = .next t →
    ∀ a : Addr, t.memRead a = if a.toNat = 0x100 + k.toNat then v else s.memRead a

/-- R81: a write anywhere else has no effect on any state, `CERR` included. -/
def Obligations.IgnoredWriteHasNoEffect : Prop :=
  ∀ (s : State) (addr : Addr) (v : Byte), exec (.wrIgnored addr v) s = .next s

/-! ## Transmit phases -/

/-- R82: in IDLE the DPF's own rule changes nothing. -/
def Obligations.IdleDoesNothing : Prop :=
  ∀ s : State, exec .stateIdle s = .next s

/-- R84: PREDRAIN pops the head byte, or enters SCAN at index 0. -/
def Obligations.PredrainStep : Prop :=
  ∀ s : State,
    (s.inp.rxValid = true → exec .statePredrain s = .next { s with
      out := { s.out with rxPop := true }, taken := s.taken ++ [s.inp.rxData] }) ∧
    (s.inp.rxValid = false → exec .statePredrain s = .next { s with sidx := 0, state := 2 })

/-- R85: SCAN at an index 0 to 254 finds the sentinel, ends BADCMD at index 254, goes on, or stops at an
unwritten byte. -/
def Obligations.ScanStep : Prop :=
  ∀ s : State, s.sidx.toNat ≤ 254 →
    (s.txByte s.sidx.toNat = none → exec .stateScan s = .fault .unwrittenCommandByte) ∧
    (s.txByte s.sidx.toNat = some 0xFD → exec .stateScan s = .next { s with
      txlen := BitVec.ofNat 8 (s.sidx.toNat + 1), tidx := 0, state := 3 }) ∧
    (∀ b, s.txByte s.sidx.toNat = some b → b ≠ 0xFD → s.sidx.toNat = 254 →
      exec .stateScan s = .next { s with
        cause := 4, ok := false, plen := 0, notify := false, done := true, state := 0 }) ∧
    (∀ b, s.txByte s.sidx.toNat = some b → b ≠ 0xFD → s.sidx.toNat < 254 →
      exec .stateScan s = .next { s with sidx := BitVec.ofNat 8 (s.sidx.toNat + 1) })

/-- R85, R148: the scan of a buffer whose first 0xFD stands at index `j ≤ 254` takes `j + 1` steps and leaves
`TXLEN = j + 1`; without a 0xFD in indices 0 to 254 it takes 255 steps and ends BADCMD. -/
def Obligations.ScanFindsFirstSentinel : Prop :=
  ∀ s : State, s.state = phaseScan → s.sidx = 0 →
    (∀ j ≤ 254, s.txByte j = some 0xFD → (∀ k < j, ∃ b, s.txByte k = some b ∧ b ≠ 0xFD) →
      execTimes .stateScan (j + 1) s = .next { s with
        sidx := BitVec.ofNat 8 j, txlen := BitVec.ofNat 8 (j + 1), tidx := 0, state := 3 }) ∧
    ((∀ k ≤ 254, ∃ b, s.txByte k = some b ∧ b ≠ 0xFD) →
      execTimes .stateScan 255 s = .next { s with
        sidx := 254, cause := 4, ok := false, plen := 0, notify := false, done := true, state := 0 })

/-- R86: TXSEND pushes `TXBUF[TIDX]` when the transport is ready and advances, to TXFLUSH after the last byte
of the frame; it waits, changing nothing, when the transport is not ready. `TIDX < TXLEN` and the byte has a
value, as in every reachable state (R42 item 4, R86). -/
def Obligations.TxsendStep : Prop :=
  ∀ (s : State) (b : Byte), s.tidx.toNat < s.txlen.toNat → s.txByte s.tidx.toNat = some b →
    (s.inp.txReady = true → exec .stateTxsend s = .next { s with
      out := { s.out with txPush := some b }, sent := s.sent ++ [b]
      tidx := BitVec.ofNat 8 (s.tidx.toNat + 1)
      state := if s.tidx.toNat + 1 = s.txlen.toNat then 4 else s.state }) ∧
    (s.inp.txReady = false → exec .stateTxsend s = .next s)

/-- R87: TXFLUSH enters RXWAIT when every pushed byte is sent, and waits otherwise. -/
def Obligations.TxflushStep : Prop :=
  ∀ s : State,
    (s.inp.txIdle = true → exec .stateTxflush s = .next { s with state := 5 }) ∧
    (s.inp.txIdle = false → exec .stateTxflush s = .next s)

/-- R17: a state with `STATE = 7` is the model fault UnreachableState, with no next state. -/
def Obligations.UnusedStateFaults : Prop :=
  ∀ s : State, exec .stateUnused7 s = .fault .unreachableState

/-! ## The receive phase -/

/-- R90: the deadline test comes first: a timeout consumes no byte, even when one is there. -/
def Obligations.DeadlineEndsReception : Prop :=
  ∀ s : State, 200 ≤ s.elapsed.toNat →
    exec .stateRxwait s = .next { s with
      state := 6, cause := 1, ok := false, plen := 0, notify := false }

/-- R91, R92: a step without a byte only counts the strobe. -/
def Obligations.IdleReceiveStep : Prop :=
  ∀ s : State, s.elapsed.toNat < 200 → s.inp.rxValid = false →
    exec .stateRxwait s = .next { s with
      elapsed := if s.inp.tickMs then BitVec.ofNat 16 (s.elapsed.toNat + 1) else s.elapsed }

/-- R89, R93, R96, R99: a byte other than 0xFE at header position 0 to 4, with no payload to capture, is
stored as `HDR[HIDX]`; a 0xFD there does not end the frame. -/
def Obligations.HeaderByteStored : Prop :=
  ∀ (s : State) (b : Byte), s.elapsed.toNat < 200 → s.inp.rxValid = true → s.inp.rxData = b →
    b ≠ 0xFE → s.hidx.toNat ≤ 4 → s.dlen.toNat ≤ s.pcnt.toNat →
    s.pcnt.toNat < s.maxPayload.toNat →
    exec .stateRxwait s = .next { s.pop with
      hdr := s.hdr.set s.hidx.toNat b, hidx := BitVec.ofNat 16 (s.hidx.toNat + 1)
      elapsed := if s.inp.tickMs then BitVec.ofNat 16 (s.elapsed.toNat + 1) else s.elapsed }

/-- R97, R98: the byte at `HIDX = 5` is stored as the length low byte and latches the big-endian declared
length; a 0xFD there does not end the frame, since the length it makes is at least 0xFD. -/
def Obligations.LengthLatched : Prop :=
  ∀ (s : State) (b : Byte), s.elapsed.toNat < 200 → s.inp.rxValid = true → s.inp.rxData = b →
    b ≠ 0xFE → s.hidx.toNat = 5 → s.dlen.toNat ≤ s.pcnt.toNat →
    s.pcnt.toNat < s.maxPayload.toNat →
    exec .stateRxwait s = .next { s.pop with
      hdr := { s.hdr with lenLo := b }, hidx := 6
      dlen := BitVec.ofNat 16 (s.hdr.lenHi.toNat * 256 + b.toNat)
      elapsed := if s.inp.tickMs then BitVec.ofNat 16 (s.elapsed.toNat + 1) else s.elapsed }

/-- R95, R98, R99: past the header, a byte other than 0xFE that is no acceptable terminator is appended while
fewer than `DLEN` bytes are captured, and reception goes on below the ceiling. -/
def Obligations.PayloadByteCaptured : Prop :=
  ∀ (s : State) (b : Byte), s.elapsed.toNat < 200 → s.inp.rxValid = true → s.inp.rxData = b →
    b ≠ 0xFE → 6 ≤ s.hidx.toNat → ¬ (b = 0xFD ∧ s.dlen.toNat + 5 ≤ s.hidx.toNat) →
    s.pcnt.toNat < s.dlen.toNat → s.pcnt.toNat + 1 < s.maxPayload.toNat →
    ∃ m, exec .stateRxwait s = .next { s.pop with
        rxbuf := m, pcnt := BitVec.ofNat 16 (s.pcnt.toNat + 1)
        hidx := BitVec.ofNat 16 (min (s.hidx.toNat + 1) 0xFFFF)
        elapsed := if s.inp.tickMs then BitVec.ofNat 16 (s.elapsed.toNat + 1) else s.elapsed } ∧
      m.get s.pcnt.toNat = some b ∧ ∀ j, j ≠ s.pcnt.toNat → m.get j = s.rxByte j

/-- R100: the byte that fills RXBUF without ending the frame ends reception with INCOMPLETE; the strobe is
not counted (R91). -/
def Obligations.CeilingEndsReception : Prop :=
  ∀ (s : State) (b : Byte), s.elapsed.toNat < 200 → s.inp.rxValid = true → s.inp.rxData = b →
    b ≠ 0xFE → 6 ≤ s.hidx.toNat → ¬ (b = 0xFD ∧ s.dlen.toNat + 5 ≤ s.hidx.toNat) →
    s.pcnt.toNat < s.dlen.toNat → s.pcnt.toNat + 1 = s.maxPayload.toNat →
    ∃ m, exec .stateRxwait s = .next { s.pop with
        rxbuf := m, pcnt := s.maxPayload
        hidx := BitVec.ofNat 16 (min (s.hidx.toNat + 1) 0xFFFF)
        state := 6, cause := 3, ok := false, plen := 0, notify := false } ∧
      m.get s.pcnt.toNat = some b ∧ ∀ j, j ≠ s.pcnt.toNat → m.get j = s.rxByte j

/-- R106: past the header with the payload complete, a byte that is neither 0xFE nor 0xFD only advances
`HIDX`. -/
def Obligations.ExtraByteTolerated : Prop :=
  ∀ (s : State) (b : Byte), s.elapsed.toNat < 200 → s.inp.rxValid = true → s.inp.rxData = b →
    b ≠ 0xFE → b ≠ 0xFD → 6 ≤ s.hidx.toNat → s.dlen.toNat ≤ s.pcnt.toNat →
    s.pcnt.toNat < s.maxPayload.toNat →
    exec .stateRxwait s = .next { s.pop with
      hidx := BitVec.ofNat 16 (min (s.hidx.toNat + 1) 0xFFFF)
      elapsed := if s.inp.tickMs then BitVec.ofNat 16 (s.elapsed.toNat + 1) else s.elapsed }

/-- R94: a 0xFE restarts both counters wherever it comes, is stored as `HDR[0]`, and leaves `DLEN`: with
`DLEN = 0` nothing is appended; with a stale `DLEN` the 0xFE itself becomes `RXBUF[0]` (R95, R105), which ends
reception if `RXBUF` has that one byte only (R100). -/
def Obligations.StartByteResynchronises : Prop :=
  ∀ s : State, s.elapsed.toNat < 200 → s.inp.rxValid = true → s.inp.rxData = 0xFE →
    (s.dlen = 0 → 0 < s.maxPayload.toNat →
      exec .stateRxwait s = .next { s.pop with
        hidx := 1, pcnt := 0, hdr := { s.hdr with start := 0xFE }
        elapsed := if s.inp.tickMs then BitVec.ofNat 16 (s.elapsed.toNat + 1) else s.elapsed }) ∧
    (s.dlen ≠ 0 → 1 < s.maxPayload.toNat →
      ∃ m, exec .stateRxwait s = .next { s.pop with
          hidx := 1, pcnt := 1, hdr := { s.hdr with start := 0xFE }, rxbuf := m
          elapsed := if s.inp.tickMs then BitVec.ofNat 16 (s.elapsed.toNat + 1) else s.elapsed } ∧
        m.get 0 = some 0xFE ∧ ∀ j, j ≠ 0 → m.get j = s.rxByte j) ∧
    (s.dlen ≠ 0 → s.maxPayload.toNat = 1 →
      ∃ m, exec .stateRxwait s = .next { s.pop with
          hidx := 1, pcnt := 1, hdr := { s.hdr with start := 0xFE }, rxbuf := m
          state := 6, cause := 3, ok := false, plen := 0, notify := false } ∧
        m.get 0 = some 0xFE ∧ ∀ j, j ≠ 0 → m.get j = s.rxByte j)

/-- R98, R107 to R111: a 0xFD at `HIDX − DLEN ≥ 5` past the header, with the payload complete, ends reception
and publishes the class of the frame: NACK, notification or reply for EXECUTE, event or none for POLL. The
counters and the header keep their values, and the strobe is not counted. -/
def Obligations.TerminatorCompletesFrame : Prop :=
  ∀ s : State, s.elapsed.toNat < 200 → s.inp.rxValid = true → s.inp.rxData = 0xFD →
    6 ≤ s.hidx.toNat → s.dlen.toNat + 5 ≤ s.hidx.toNat → s.dlen.toNat ≤ s.pcnt.toNat →
    (s.op = 1 → s.hdr.cmdType = 0x00 → s.hdr.cmdId = 0x02 →
      exec .stateRxwait s = .next { s.pop with
        state := 6, cause := 2, ok := false, plen := 0, notify := false }) ∧
    (s.op = 1 → s.hdr.cmdType = 0x07 →
      exec .stateRxwait s = .next { s.pop with
        state := 6, cause := 0, ok := true, plen := s.dlen, notify := true }) ∧
    (s.op = 1 → s.hdr.cmdType ≠ 0x07 → ¬ (s.hdr.cmdType = 0x00 ∧ s.hdr.cmdId = 0x02) →
      exec .stateRxwait s = .next { s.pop with
        state := 6, cause := 0, ok := true, plen := s.dlen, notify := false }) ∧
    (s.op = 2 → s.hdr.cmdType = 0x07 →
      exec .stateRxwait s = .next { s.pop with
        state := 6, cause := 0, ok := true, plen := s.dlen, notify := true
        event := BitVec.ofNat 8 (s.hdr.cmdId.toNat + 1) }) ∧
    (s.op = 2 → s.hdr.cmdType ≠ 0x07 →
      exec .stateRxwait s = .next { s.pop with
        state := 6, cause := 0, ok := true, plen := s.dlen, notify := false, event := 0 })

/-- R62, R98, R117 item 3: a 0xFD that is the last payload byte completes the frame one byte early, with the
byte captured, even where it fills RXBUF: the completion test comes before the ceiling test. Here under an
EXECUTE whose frame is a reply. -/
def Obligations.LastPayloadByteMayTerminate : Prop :=
  ∀ s : State, s.elapsed.toNat < 200 → s.inp.rxValid = true → s.inp.rxData = 0xFD →
    6 ≤ s.hidx.toNat → s.hidx.toNat = s.dlen.toNat + 5 → s.pcnt.toNat + 1 = s.dlen.toNat →
    s.dlen.toNat ≤ s.maxPayload.toNat →
    s.op = 1 → s.hdr.cmdType ≠ 0x07 → ¬ (s.hdr.cmdType = 0x00 ∧ s.hdr.cmdId = 0x02) →
    ∃ m, exec .stateRxwait s = .next { s.pop with
        rxbuf := m, pcnt := s.dlen
        state := 6, cause := 0, ok := true, plen := s.dlen, notify := false } ∧
      m.get s.pcnt.toNat = some 0xFD ∧ ∀ j, j ≠ s.pcnt.toNat → m.get j = s.rxByte j

/-- R89: the RXWAIT step in its order. Deadline test; idle step; else one byte: resynchronisation (R94), payload
capture (R95), header capture (R96), length latch (R97), terminator test (R98), counter advance (R99), ceiling
test (R100), strobe (R91), each seeing what the ones before it wrote. `PCNT < MAX_PAYLOAD` is R42 item 2. -/
def Obligations.RxwaitStepInOrder : Prop :=
  ∀ (s : State) (b : Byte) (h p : Nat), s.pcnt.toNat < s.maxPayload.toNat → s.inp.rxData = b →
    h = (if b = 0xFE then 0 else s.hidx.toNat) → p = (if b = 0xFE then 0 else s.pcnt.toNat) →
    (200 ≤ s.elapsed.toNat → exec .stateRxwait s = finishRx .timeout s) ∧
    (s.elapsed.toNat < 200 → s.inp.rxValid = false → exec .stateRxwait s = .next { s with
      elapsed := if s.inp.tickMs then BitVec.ofNat 16 (s.elapsed.toNat + 1) else s.elapsed }) ∧
    (s.elapsed.toNat < 200 → s.inp.rxValid = true → ∃ (m : Memory) (u : State),
      u = { s.pop with
        hidx := BitVec.ofNat 16 h
        pcnt := BitVec.ofNat 16 (if p < s.dlen.toNat then p + 1 else p), rxbuf := m
        hdr := if h ≤ 5 then s.hdr.set h b else s.hdr
        dlen := if h = 5 then BitVec.ofNat 16 (s.hdr.lenHi.toNat * 256 + b.toNat) else s.dlen } ∧
      (∀ j, m.get j = if p < s.dlen.toNat ∧ j = p then some b else s.rxByte j) ∧
      (u.dlen.toNat + 5 ≤ h ∧ b = 0xFD → exec .stateRxwait s = finishRx .complete u) ∧
      (¬ (u.dlen.toNat + 5 ≤ h ∧ b = 0xFD) → s.maxPayload.toNat ≤ u.pcnt.toNat →
        exec .stateRxwait s =
          finishRx .incomplete { u with hidx := BitVec.ofNat 16 (min (h + 1) 0xFFFF) }) ∧
      (¬ (u.dlen.toNat + 5 ≤ h ∧ b = 0xFD) → u.pcnt.toNat < s.maxPayload.toNat →
        exec .stateRxwait s = .next { u with
          hidx := BitVec.ofNat 16 (min (h + 1) 0xFFFF)
          elapsed := if s.inp.tickMs then BitVec.ofNat 16 (s.elapsed.toNat + 1) else s.elapsed }))

/-- R101: POSTDRAIN pops the head byte, or ends the transaction: `DONE = 1`, IDLE. The results stay. -/
def Obligations.PostdrainStep : Prop :=
  ∀ s : State,
    (s.inp.rxValid = true → exec .statePostdrain s = .next { s with
      out := { s.out with rxPop := true }, taken := s.taken ++ [s.inp.rxData] }) ∧
    (s.inp.rxValid = false → exec .statePostdrain s = .next { s with done := true, state := 0 })

/-! ## Frame classes -/

/-- R108: the NACK class of an EXECUTE. -/
def Obligations.NackClass : Prop :=
  ∀ s : State, exec .rxclassExecuteNack s = .next { s with
    cause := 2, ok := false, plen := 0, notify := false }

/-- R109, R110: a notification and a reply are successes of an EXECUTE, told apart by `NOTIFY`; `EVENT` is
not written. -/
def Obligations.ExecuteSuccessClasses : Prop :=
  ∀ (s : State) (cmdType id : Byte),
    exec (.rxclassExecuteNotify id) s = .next { s with
      cause := 0, ok := true, plen := s.dlen, notify := true } ∧
    exec (.rxclassExecuteReply cmdType id) s = .next { s with
      cause := 0, ok := true, plen := s.dlen, notify := false }

/-- R65, R111: POLL reports a notification's event code, `(id + 1) mod 256`, and no event for any other
frame. -/
def Obligations.PollClasses : Prop :=
  ∀ (s : State) (cmdType id : Byte),
    exec (.rxclassPollNotify id) s = .next { s with
      cause := 0, ok := true, plen := s.dlen, notify := true
      event := BitVec.ofNat 8 ((id.toNat + 1) % 256) } ∧
    exec (.rxclassPollOther cmdType id) s = .next { s with
      cause := 0, ok := true, plen := s.dlen, notify := false, event := 0 }

/-- R107: the RXWAIT step that takes a terminator runs the row its class word decodes to, on the state with
the byte popped, `STATE = POSTDRAIN` and `NOTIFY` computed. -/
def Obligations.CompletionRunsDecodedClass : Prop :=
  ∀ (s : State) (i : Instr), s.elapsed.toNat < 200 → s.inp.rxValid = true → s.inp.rxData = 0xFD →
    6 ≤ s.hidx.toNat → s.dlen.toNat + 5 ≤ s.hidx.toNat → s.dlen.toNat ≤ s.pcnt.toNat →
    decode (.frameClass s.op) [s.hdr.cmdId, s.hdr.cmdType] = .ok i →
    exec .stateRxwait s =
      exec i { s.pop with state := 6, notify := decide (s.hdr.cmdType = 0x07) }

/-! ## Runs of a phase -/

/-- R84, R101, R148: a drain of `p` bytes takes `p + 1` steps, ends at the first step with `rx_valid = 0`, and
takes exactly the bytes presented. PREDRAIN then enters SCAN, POSTDRAIN ends the transaction. -/
def Obligations.DrainTakesEveryBufferedByte : Prop :=
  ∀ (s : State) (ps : List Pins) (q : Pins) (rest : List Pins), s.schedule = ps ++ q :: rest →
    Undisturbed (ps ++ [q]) → (∀ p ∈ ps, p.rxValid = true) → q.rxValid = false →
    contractHolds s s.nextPins = true →
    (s.state = phasePredrain → ∃ t, Sys2Proof.core.run (ps.length + 1) s = .next t ∧
      t.state = phaseScan ∧ t.sidx = 0 ∧ t.taken = s.taken ++ receivedBytes ps ∧
      t.sent = s.sent ∧ t.txbuf = s.txbuf ∧ t.rxbuf = s.rxbuf) ∧
    (s.state = phasePostdrain → ∃ t, Sys2Proof.core.run (ps.length + 1) s = .next t ∧
      t.state = phaseIdle ∧ t.done = true ∧ t.taken = s.taken ++ receivedBytes ps ∧
      t.cause = s.cause ∧ t.ok = s.ok ∧ t.notify = s.notify ∧ t.event = s.event ∧ t.plen = s.plen ∧
      t.rxbuf = s.rxbuf)

/-- R91, R92: with no byte, reception counts the strobes and changes nothing else (the ports, the step count and
the schedule apart), as long as every step starts before the deadline; with 200 strobes counted, the next step times out. -/
def Obligations.DeadlineCountsStrobes : Prop :=
  ∀ (s : State) (ps : List Pins) (q : Pins) (rest : List Pins), s.schedule = ps ++ q :: rest →
    Undisturbed (ps ++ [q]) → receivedBytes ps = [] → s.state = phaseRxwait → s.elapsed = 0 →
    contractHolds s s.nextPins = true → strobes ps.dropLast < 200 →
    ∃ t, Sys2Proof.core.run ps.length s = .next t ∧ t.state = phaseRxwait ∧
      t.elapsed.toNat = strobes ps ∧ t.hidx = s.hidx ∧ t.pcnt = s.pcnt ∧ t.hdr = s.hdr ∧
      t.dlen = s.dlen ∧ t.rxbuf = s.rxbuf ∧ t.taken = s.taken ∧
      t = { s with
        elapsed := t.elapsed, inp := t.inp, out := t.out, cycle := s.cycle + ps.length
        schedule := q :: rest } ∧
      (strobes ps = 200 → ∃ u, Sys2Proof.core.run (ps.length + 1) s = .next u ∧
        u.state = phasePostdrain ∧ u.cause = causeTimeout ∧ u.ok = false ∧ u.plen = 0 ∧
        u.notify = false ∧ u.taken = s.taken)

/-- R102: a clean frame is received exactly, with idle steps and strobes anywhere between its bytes as long
as the deadline is not reached: HDR, DLEN, PCNT, HIDX and the whole payload, on its END byte, and every byte
after END is left. The length is at most 65529, so that HIDX does not saturate (R99, R148): above it R102 would
not hold of the rules. -/
def Obligations.CleanFrameReceivedExactly : Prop :=
  ∀ (s : State) (ps : List Pins) (q : Pins) (rest : List Pins) (ty id rsv : Byte)
    (payload : List Byte),
    s.state = phaseRxwait → s.hidx = 0 → s.pcnt = 0 → s.dlen = 0 →
    s.schedule = ps ++ q :: rest → Undisturbed (ps ++ [q]) → contractHolds s s.nextPins = true →
    payload.length + 1 ≤ s.maxPayload.toNat → payload.length ≤ 65529 →
    receivedBytes (ps ++ [q]) =
      [startByte, ty, id, rsv, BitVec.ofNat 8 (payload.length / 256),
        BitVec.ofNat 8 payload.length] ++ payload ++ [endByte] →
    q.rxValid = true →
    (∀ b ∈ [ty, id, rsv, BitVec.ofNat 8 (payload.length / 256), BitVec.ofNat 8 payload.length] ++
      payload, b ≠ startByte) →
    (∀ b, payload.getLast? = some b → b ≠ endByte) →
    s.elapsed.toNat + strobes ps < 200 →
    ∃ t, Sys2Proof.core.run (ps.length + 1) s = .next t ∧ t.state = phasePostdrain ∧
      t.hdr = { start := startByte, cmdType := ty, cmdId := id, reserved := rsv,
                lenHi := BitVec.ofNat 8 (payload.length / 256),
                lenLo := BitVec.ofNat 8 payload.length } ∧
      t.dlen.toNat = payload.length ∧ t.pcnt.toNat = payload.length ∧
      t.hidx.toNat = 6 + payload.length ∧
      (∀ k < payload.length, t.rxByte k = payload[k]?) ∧
      t.taken = s.taken ++ receivedBytes (ps ++ [q])

/-- R58, R63, R88: as long as an accepted EXECUTE stays busy, what it pushes is `TXBUF` up to and including its
first 0xFD, in order, each byte once; nothing before TXSEND, and all of it before TXFLUSH ends. -/
def Obligations.ExecuteTransmitsItsFrame : Prop :=
  ∀ (s : State) (f : List Byte), s.Inv → s.state = phasePredrain → s.commandFrame = some f →
    ∀ (n : Nat) (t : State), Sys2Proof.core.run n s = .next t →
      (∀ m ≤ n, ∀ u, Sys2Proof.core.run m s = .next u → u.state ≠ phaseIdle) →
      (t.state = phasePredrain ∨ t.state = phaseScan → t.sent = s.sent) ∧
      (t.state = phaseTxsend → t.sent = s.sent ++ f.take t.tidx.toNat) ∧
      (t.state = phaseTxflush ∨ t.state = phaseRxwait ∨ t.state = phasePostdrain →
        t.sent = s.sent ++ f)

/-! ## Rules of the whole machine -/

/-- R42 and the rules it rests on: every step keeps the invariants. -/
def Obligations.StepKeepsInvariants : Prop :=
  ∀ s t : State, s.Inv → step s = .next t → t.Inv

/-- The reset state has the invariants, whatever value of 1..65535 the parameter has. -/
def Obligations.ResetHasInvariants : Prop := State.reset.Inv

/-- Every step keeps both memories in canonical form. -/
def Obligations.StepKeepsMemoryForm : Prop :=
  ∀ s t : State, Memory.wf s.txbuf ∧ Memory.wf s.rxbuf → step s = .next t →
    Memory.wf t.txbuf ∧ Memory.wf t.rxbuf

/-- R17, R95: under the invariants a step never stops with UnreachableState, nor at an append outside RXBUF;
and it never refuses. -/
def Obligations.InvariantsExcludeFaults : Prop :=
  ∀ s : State, s.Inv →
    step s ≠ .fault .unreachableState ∧ step s ≠ .fault .rxbufOverrun ∧ ∀ r, step s ≠ .refused r

/-- R57, R82: in a step that starts in IDLE with no reset and no command write, nothing changes but the
TXBUF byte that the host writes, and the ports. A reserved code is a command write too, so `CERR` does not change. -/
def Obligations.IdleStateIsStable : Prop :=
  ∀ s t : State, s.state = phaseIdle → s.nextPins.rst = false →
    ¬ (s.nextPins.busEn = true ∧ s.nextPins.busWe = true ∧ s.nextPins.busAddr = 0) →
    step s = .next t →
    t = { s.sample s.nextPins with txbuf := t.txbuf, out := t.out } ∧
      t.out.rxPop = false ∧ t.out.txPush = none ∧
      ∀ k, ¬ (s.nextPins.busEn = true ∧ s.nextPins.busWe = true ∧ s.nextPins.busAddr.toNat = 0x100 + k) →
        t.txByte k = s.txByte k

/-- R59, R73: a transaction starts only in IDLE, by a write of 0x01 or 0x02 to CMD; no other step changes
`OP`, a reset apart. -/
def Obligations.OnlyCommandsStartTransactions : Prop :=
  ∀ s t : State, s.nextPins.rst = false → step s = .next t →
    (t.op ≠ s.op ∨ (s.state = phaseIdle ∧ t.state ≠ phaseIdle)) →
    s.state = phaseIdle ∧ s.nextPins.busEn = true ∧ s.nextPins.busWe = true ∧
      s.nextPins.busAddr = 0 ∧ (s.nextPins.busWdata = 0x01 ∨ s.nextPins.busWdata = 0x02)

/-- R58, R80: no step that starts busy changes TXBUF, a reset apart. -/
def Obligations.BusyStepsKeepCommandBuffer : Prop :=
  ∀ s t : State, s.state ≠ phaseIdle → s.nextPins.rst = false → step s = .next t →
    t.txbuf = s.txbuf

/-- R39: only RXWAIT writes RXBUF, at most at the index PCNT (0 after a resynchronisation), a reset apart. -/
def Obligations.OnlyReceptionWritesPayload : Prop :=
  ∀ s t : State, s.nextPins.rst = false → step s = .next t →
    (s.state ≠ phaseRxwait → t.rxbuf = s.rxbuf) ∧
    (∀ k, k ≠ (if s.nextPins.rxData = startByte then 0 else s.pcnt.toNat) → t.rxByte k = s.rxByte k)

/-- R124, R125, R126: `tx_push` is 1 only in TXSEND with `tx_ready = 1`; `rx_pop` is 1 only in PREDRAIN, RXWAIT
and POSTDRAIN with `rx_valid = 1`, and takes `rx_data`; neither in a reset step. -/
def Obligations.PortsDrivenOnlyByRule : Prop :=
  ∀ s t : State, step s = .next t →
    (t.out.txPush ≠ none →
      s.nextPins.rst = false ∧ s.state = phaseTxsend ∧ s.nextPins.txReady = true) ∧
    (t.out.rxPop = true → s.nextPins.rst = false ∧ s.nextPins.rxValid = true ∧
      (s.state = phasePredrain ∨ s.state = phaseRxwait ∨ s.state = phasePostdrain)) ∧
    t.taken = s.taken ++ (if t.out.rxPop then [s.nextPins.rxData] else []) ∧
    t.sent = s.sent ++ t.out.txPush.toList

/-- R114: the step that ends RXWAIT publishes one row of the cause table. -/
def Obligations.ReceptionEndsAsTheTableSays : Prop :=
  ∀ s t : State, s.Inv → s.state = phaseRxwait → s.nextPins.rst = false → step s = .next t →
    t.state ≠ phaseRxwait →
    t.state = phasePostdrain ∧ t.done = false ∧
    ((t.cause = causeNone ∧ t.ok = true ∧ t.plen = t.dlen ∧
        t.notify = decide (t.hdr.cmdType = notifyType) ∧
        (t.event = if t.op = opPoll ∧ t.hdr.cmdType = notifyType then eventCode t.hdr.cmdId else 0) ∧
        ¬ (t.op = opExecute ∧ t.hdr.cmdType = 0x00 ∧ t.hdr.cmdId = 0x02)) ∨
      (t.cause = causeTimeout ∧ t.ok = false ∧ t.plen = 0 ∧ t.notify = false ∧ t.event = 0 ∧
        t.elapsed = 200) ∨
      (t.cause = causeNack ∧ t.ok = false ∧ t.plen = 0 ∧ t.notify = false ∧ t.event = 0 ∧
        t.op = opExecute ∧ t.hdr.cmdType = 0x00 ∧ t.hdr.cmdId = 0x02) ∨
      (t.cause = causeIncomplete ∧ t.ok = false ∧ t.plen = 0 ∧ t.notify = false ∧ t.event = 0 ∧
        t.pcnt = t.maxPayload))

/-- R29, R149: without a reset, BUSY falls only in a POSTDRAIN step that sees `rx_valid = 0` or in the SCAN step
that ends BADCMD, and `DONE` is set in that step. -/
def Obligations.TransactionEndsWithDone : Prop :=
  ∀ s t : State, s.state ≠ phaseIdle → s.nextPins.rst = false → step s = .next t →
    t.state = phaseIdle →
    t.done = true ∧
      ((s.state = phasePostdrain ∧ s.nextPins.rxValid = false) ∨
        (s.state = phaseScan ∧ s.sidx.toNat = 254 ∧ t.cause = causeBadcmd ∧ t.ok = false))

/-- R35, R112: under the invariants, every byte of the payload reported to the host has a value. -/
def Obligations.ReportedPayloadIsWritten : Prop :=
  ∀ s : State, s.Inv → ∀ k < s.plen.toNat,
    ∃ v, s.rxByte k = some v ∧ s.memRead (BitVec.ofNat 17 (0x10000 + k)) = v

/-- R42, R149: a run of a host program from a state with the invariants, with accesses, polling and pauses in any
order, ends only in a state with `STATE = IDLE`, which has the invariants. -/
def Obligations.RunResultIsIdle : Prop :=
  ∀ (acts : List HostAct) (env : List Pins) (s t : State), s.Inv →
    runProgram acts env s = .next (some t) → t.state = phaseIdle ∧ t.Inv
end

