-- ==== Sys2Proof/Laws/State.lean ====
section
/-! SUPPORT. One lemma per field and update of State: what each named update leaves in each field. All hold
by `rfl`, so that no later proof unfolds a record update. -/

namespace Sys2Proof.Machine

variable (s : State)

/-! ## State.pop -/

@[simp] theorem State.pop_state : s.pop.state = s.state := rfl
@[simp] theorem State.pop_op : s.pop.op = s.op := rfl
@[simp] theorem State.pop_sidx : s.pop.sidx = s.sidx := rfl
@[simp] theorem State.pop_tidx : s.pop.tidx = s.tidx := rfl
@[simp] theorem State.pop_txlen : s.pop.txlen = s.txlen := rfl
@[simp] theorem State.pop_hidx : s.pop.hidx = s.hidx := rfl
@[simp] theorem State.pop_pcnt : s.pop.pcnt = s.pcnt := rfl
@[simp] theorem State.pop_dlen : s.pop.dlen = s.dlen := rfl
@[simp] theorem State.pop_hdr : s.pop.hdr = s.hdr := rfl
@[simp] theorem State.pop_elapsed : s.pop.elapsed = s.elapsed := rfl
@[simp] theorem State.pop_done : s.pop.done = s.done := rfl
@[simp] theorem State.pop_ok : s.pop.ok = s.ok := rfl
@[simp] theorem State.pop_notify : s.pop.notify = s.notify := rfl
@[simp] theorem State.pop_cerr : s.pop.cerr = s.cerr := rfl
@[simp] theorem State.pop_cause : s.pop.cause = s.cause := rfl
@[simp] theorem State.pop_event : s.pop.event = s.event := rfl
@[simp] theorem State.pop_plen : s.pop.plen = s.plen := rfl
@[simp] theorem State.pop_txbuf : s.pop.txbuf = s.txbuf := rfl
@[simp] theorem State.pop_rxbuf : s.pop.rxbuf = s.rxbuf := rfl
@[simp] theorem State.pop_maxPayload : s.pop.maxPayload = s.maxPayload := rfl
@[simp] theorem State.pop_inp : s.pop.inp = s.inp := rfl
@[simp] theorem State.pop_out : s.pop.out = { s.out with rxPop := true } := rfl
@[simp] theorem State.pop_cycle : s.pop.cycle = s.cycle := rfl
@[simp] theorem State.pop_schedule : s.pop.schedule = s.schedule := rfl
@[simp] theorem State.pop_sent : s.pop.sent = s.sent := rfl
@[simp] theorem State.pop_taken : s.pop.taken = s.taken ++ [s.inp.rxData] := rfl

/-! ## State.push -/

@[simp] theorem State.push_state (b : Byte) : (s.push b).state = s.state := rfl
@[simp] theorem State.push_op (b : Byte) : (s.push b).op = s.op := rfl
@[simp] theorem State.push_sidx (b : Byte) : (s.push b).sidx = s.sidx := rfl
@[simp] theorem State.push_tidx (b : Byte) : (s.push b).tidx = s.tidx := rfl
@[simp] theorem State.push_txlen (b : Byte) : (s.push b).txlen = s.txlen := rfl
@[simp] theorem State.push_hidx (b : Byte) : (s.push b).hidx = s.hidx := rfl
@[simp] theorem State.push_pcnt (b : Byte) : (s.push b).pcnt = s.pcnt := rfl
@[simp] theorem State.push_dlen (b : Byte) : (s.push b).dlen = s.dlen := rfl
@[simp] theorem State.push_hdr (b : Byte) : (s.push b).hdr = s.hdr := rfl
@[simp] theorem State.push_elapsed (b : Byte) : (s.push b).elapsed = s.elapsed := rfl
@[simp] theorem State.push_done (b : Byte) : (s.push b).done = s.done := rfl
@[simp] theorem State.push_ok (b : Byte) : (s.push b).ok = s.ok := rfl
@[simp] theorem State.push_notify (b : Byte) : (s.push b).notify = s.notify := rfl
@[simp] theorem State.push_cerr (b : Byte) : (s.push b).cerr = s.cerr := rfl
@[simp] theorem State.push_cause (b : Byte) : (s.push b).cause = s.cause := rfl
@[simp] theorem State.push_event (b : Byte) : (s.push b).event = s.event := rfl
@[simp] theorem State.push_plen (b : Byte) : (s.push b).plen = s.plen := rfl
@[simp] theorem State.push_txbuf (b : Byte) : (s.push b).txbuf = s.txbuf := rfl
@[simp] theorem State.push_rxbuf (b : Byte) : (s.push b).rxbuf = s.rxbuf := rfl
@[simp] theorem State.push_maxPayload (b : Byte) : (s.push b).maxPayload = s.maxPayload := rfl
@[simp] theorem State.push_inp (b : Byte) : (s.push b).inp = s.inp := rfl
@[simp] theorem State.push_out (b : Byte) : (s.push b).out = { s.out with txPush := some b } := rfl
@[simp] theorem State.push_cycle (b : Byte) : (s.push b).cycle = s.cycle := rfl
@[simp] theorem State.push_schedule (b : Byte) : (s.push b).schedule = s.schedule := rfl
@[simp] theorem State.push_sent (b : Byte) : (s.push b).sent = s.sent ++ [b] := rfl
@[simp] theorem State.push_taken (b : Byte) : (s.push b).taken = s.taken := rfl

/-! ## State.driveRdata -/

@[simp] theorem State.driveRdata_state (b : Byte) : (s.driveRdata b).state = s.state := rfl
@[simp] theorem State.driveRdata_op (b : Byte) : (s.driveRdata b).op = s.op := rfl
@[simp] theorem State.driveRdata_sidx (b : Byte) : (s.driveRdata b).sidx = s.sidx := rfl
@[simp] theorem State.driveRdata_tidx (b : Byte) : (s.driveRdata b).tidx = s.tidx := rfl
@[simp] theorem State.driveRdata_txlen (b : Byte) : (s.driveRdata b).txlen = s.txlen := rfl
@[simp] theorem State.driveRdata_hidx (b : Byte) : (s.driveRdata b).hidx = s.hidx := rfl
@[simp] theorem State.driveRdata_pcnt (b : Byte) : (s.driveRdata b).pcnt = s.pcnt := rfl
@[simp] theorem State.driveRdata_dlen (b : Byte) : (s.driveRdata b).dlen = s.dlen := rfl
@[simp] theorem State.driveRdata_hdr (b : Byte) : (s.driveRdata b).hdr = s.hdr := rfl
@[simp] theorem State.driveRdata_elapsed (b : Byte) : (s.driveRdata b).elapsed = s.elapsed := rfl
@[simp] theorem State.driveRdata_done (b : Byte) : (s.driveRdata b).done = s.done := rfl
@[simp] theorem State.driveRdata_ok (b : Byte) : (s.driveRdata b).ok = s.ok := rfl
@[simp] theorem State.driveRdata_notify (b : Byte) : (s.driveRdata b).notify = s.notify := rfl
@[simp] theorem State.driveRdata_cerr (b : Byte) : (s.driveRdata b).cerr = s.cerr := rfl
@[simp] theorem State.driveRdata_cause (b : Byte) : (s.driveRdata b).cause = s.cause := rfl
@[simp] theorem State.driveRdata_event (b : Byte) : (s.driveRdata b).event = s.event := rfl
@[simp] theorem State.driveRdata_plen (b : Byte) : (s.driveRdata b).plen = s.plen := rfl
@[simp] theorem State.driveRdata_txbuf (b : Byte) : (s.driveRdata b).txbuf = s.txbuf := rfl
@[simp] theorem State.driveRdata_rxbuf (b : Byte) : (s.driveRdata b).rxbuf = s.rxbuf := rfl
@[simp] theorem State.driveRdata_maxPayload (b : Byte) :
    (s.driveRdata b).maxPayload = s.maxPayload := rfl
@[simp] theorem State.driveRdata_inp (b : Byte) : (s.driveRdata b).inp = s.inp := rfl
@[simp] theorem State.driveRdata_out (b : Byte) :
    (s.driveRdata b).out = { s.out with rdata := some b } := rfl
@[simp] theorem State.driveRdata_cycle (b : Byte) : (s.driveRdata b).cycle = s.cycle := rfl
@[simp] theorem State.driveRdata_schedule (b : Byte) : (s.driveRdata b).schedule = s.schedule := rfl
@[simp] theorem State.driveRdata_sent (b : Byte) : (s.driveRdata b).sent = s.sent := rfl
@[simp] theorem State.driveRdata_taken (b : Byte) : (s.driveRdata b).taken = s.taken := rfl

/-! ## State.accept -/

@[simp] theorem State.accept_state (o : BitVec 2) :
    (s.accept o).state = if o = opExecute then phasePredrain else phaseRxwait := rfl
@[simp] theorem State.accept_op (o : BitVec 2) : (s.accept o).op = o := rfl
@[simp] theorem State.accept_sidx (o : BitVec 2) : (s.accept o).sidx = 0 := rfl
@[simp] theorem State.accept_tidx (o : BitVec 2) : (s.accept o).tidx = 0 := rfl
@[simp] theorem State.accept_txlen (o : BitVec 2) : (s.accept o).txlen = 0 := rfl
@[simp] theorem State.accept_hidx (o : BitVec 2) : (s.accept o).hidx = 0 := rfl
@[simp] theorem State.accept_pcnt (o : BitVec 2) : (s.accept o).pcnt = 0 := rfl
@[simp] theorem State.accept_dlen (o : BitVec 2) : (s.accept o).dlen = 0 := rfl
@[simp] theorem State.accept_hdr (o : BitVec 2) : (s.accept o).hdr = Header.zero := rfl
@[simp] theorem State.accept_elapsed (o : BitVec 2) : (s.accept o).elapsed = 0 := rfl
@[simp] theorem State.accept_done (o : BitVec 2) : (s.accept o).done = false := rfl
@[simp] theorem State.accept_ok (o : BitVec 2) : (s.accept o).ok = false := rfl
@[simp] theorem State.accept_notify (o : BitVec 2) : (s.accept o).notify = false := rfl
@[simp] theorem State.accept_cerr (o : BitVec 2) : (s.accept o).cerr = false := rfl
@[simp] theorem State.accept_cause (o : BitVec 2) : (s.accept o).cause = causeNone := rfl
@[simp] theorem State.accept_event (o : BitVec 2) : (s.accept o).event = 0 := rfl
@[simp] theorem State.accept_plen (o : BitVec 2) : (s.accept o).plen = 0 := rfl
@[simp] theorem State.accept_txbuf (o : BitVec 2) : (s.accept o).txbuf = s.txbuf := rfl
@[simp] theorem State.accept_rxbuf (o : BitVec 2) : (s.accept o).rxbuf = s.rxbuf := rfl
@[simp] theorem State.accept_maxPayload (o : BitVec 2) :
    (s.accept o).maxPayload = s.maxPayload := rfl
@[simp] theorem State.accept_inp (o : BitVec 2) : (s.accept o).inp = s.inp := rfl
@[simp] theorem State.accept_out (o : BitVec 2) : (s.accept o).out = s.out := rfl
@[simp] theorem State.accept_cycle (o : BitVec 2) : (s.accept o).cycle = s.cycle := rfl
@[simp] theorem State.accept_schedule (o : BitVec 2) : (s.accept o).schedule = s.schedule := rfl
@[simp] theorem State.accept_sent (o : BitVec 2) : (s.accept o).sent = s.sent := rfl
@[simp] theorem State.accept_taken (o : BitVec 2) : (s.accept o).taken = s.taken := rfl

/-! ## State.refuseWrite -/

@[simp] theorem State.refuseWrite_state : s.refuseWrite.state = s.state := rfl
@[simp] theorem State.refuseWrite_op : s.refuseWrite.op = s.op := rfl
@[simp] theorem State.refuseWrite_sidx : s.refuseWrite.sidx = s.sidx := rfl
@[simp] theorem State.refuseWrite_tidx : s.refuseWrite.tidx = s.tidx := rfl
@[simp] theorem State.refuseWrite_txlen : s.refuseWrite.txlen = s.txlen := rfl
@[simp] theorem State.refuseWrite_hidx : s.refuseWrite.hidx = s.hidx := rfl
@[simp] theorem State.refuseWrite_pcnt : s.refuseWrite.pcnt = s.pcnt := rfl
@[simp] theorem State.refuseWrite_dlen : s.refuseWrite.dlen = s.dlen := rfl
@[simp] theorem State.refuseWrite_hdr : s.refuseWrite.hdr = s.hdr := rfl
@[simp] theorem State.refuseWrite_elapsed : s.refuseWrite.elapsed = s.elapsed := rfl
@[simp] theorem State.refuseWrite_done : s.refuseWrite.done = s.done := rfl
@[simp] theorem State.refuseWrite_ok : s.refuseWrite.ok = s.ok := rfl
@[simp] theorem State.refuseWrite_notify : s.refuseWrite.notify = s.notify := rfl
@[simp] theorem State.refuseWrite_cerr : s.refuseWrite.cerr = true := rfl
@[simp] theorem State.refuseWrite_cause : s.refuseWrite.cause = s.cause := rfl
@[simp] theorem State.refuseWrite_event : s.refuseWrite.event = s.event := rfl
@[simp] theorem State.refuseWrite_plen : s.refuseWrite.plen = s.plen := rfl
@[simp] theorem State.refuseWrite_txbuf : s.refuseWrite.txbuf = s.txbuf := rfl
@[simp] theorem State.refuseWrite_rxbuf : s.refuseWrite.rxbuf = s.rxbuf := rfl
@[simp] theorem State.refuseWrite_maxPayload : s.refuseWrite.maxPayload = s.maxPayload := rfl
@[simp] theorem State.refuseWrite_inp : s.refuseWrite.inp = s.inp := rfl
@[simp] theorem State.refuseWrite_out : s.refuseWrite.out = s.out := rfl
@[simp] theorem State.refuseWrite_cycle : s.refuseWrite.cycle = s.cycle := rfl
@[simp] theorem State.refuseWrite_schedule : s.refuseWrite.schedule = s.schedule := rfl
@[simp] theorem State.refuseWrite_sent : s.refuseWrite.sent = s.sent := rfl
@[simp] theorem State.refuseWrite_taken : s.refuseWrite.taken = s.taken := rfl

/-! ## State.publish -/

@[simp] theorem State.publish_state (c : BitVec 3) (o : Bool) (n : Half) (f : Bool) :
    (s.publish c o n f).state = s.state := rfl
@[simp] theorem State.publish_op (c : BitVec 3) (o : Bool) (n : Half) (f : Bool) :
    (s.publish c o n f).op = s.op := rfl
@[simp] theorem State.publish_sidx (c : BitVec 3) (o : Bool) (n : Half) (f : Bool) :
    (s.publish c o n f).sidx = s.sidx := rfl
@[simp] theorem State.publish_tidx (c : BitVec 3) (o : Bool) (n : Half) (f : Bool) :
    (s.publish c o n f).tidx = s.tidx := rfl
@[simp] theorem State.publish_txlen (c : BitVec 3) (o : Bool) (n : Half) (f : Bool) :
    (s.publish c o n f).txlen = s.txlen := rfl
@[simp] theorem State.publish_hidx (c : BitVec 3) (o : Bool) (n : Half) (f : Bool) :
    (s.publish c o n f).hidx = s.hidx := rfl
@[simp] theorem State.publish_pcnt (c : BitVec 3) (o : Bool) (n : Half) (f : Bool) :
    (s.publish c o n f).pcnt = s.pcnt := rfl
@[simp] theorem State.publish_dlen (c : BitVec 3) (o : Bool) (n : Half) (f : Bool) :
    (s.publish c o n f).dlen = s.dlen := rfl
@[simp] theorem State.publish_hdr (c : BitVec 3) (o : Bool) (n : Half) (f : Bool) :
    (s.publish c o n f).hdr = s.hdr := rfl
@[simp] theorem State.publish_elapsed (c : BitVec 3) (o : Bool) (n : Half) (f : Bool) :
    (s.publish c o n f).elapsed = s.elapsed := rfl
@[simp] theorem State.publish_done (c : BitVec 3) (o : Bool) (n : Half) (f : Bool) :
    (s.publish c o n f).done = s.done := rfl
@[simp] theorem State.publish_ok (c : BitVec 3) (o : Bool) (n : Half) (f : Bool) :
    (s.publish c o n f).ok = o := rfl
@[simp] theorem State.publish_notify (c : BitVec 3) (o : Bool) (n : Half) (f : Bool) :
    (s.publish c o n f).notify = f := rfl
@[simp] theorem State.publish_cerr (c : BitVec 3) (o : Bool) (n : Half) (f : Bool) :
    (s.publish c o n f).cerr = s.cerr := rfl
@[simp] theorem State.publish_cause (c : BitVec 3) (o : Bool) (n : Half) (f : Bool) :
    (s.publish c o n f).cause = c := rfl
@[simp] theorem State.publish_event (c : BitVec 3) (o : Bool) (n : Half) (f : Bool) :
    (s.publish c o n f).event = s.event := rfl
@[simp] theorem State.publish_plen (c : BitVec 3) (o : Bool) (n : Half) (f : Bool) :
    (s.publish c o n f).plen = n := rfl
@[simp] theorem State.publish_txbuf (c : BitVec 3) (o : Bool) (n : Half) (f : Bool) :
    (s.publish c o n f).txbuf = s.txbuf := rfl
@[simp] theorem State.publish_rxbuf (c : BitVec 3) (o : Bool) (n : Half) (f : Bool) :
    (s.publish c o n f).rxbuf = s.rxbuf := rfl
@[simp] theorem State.publish_maxPayload (c : BitVec 3) (o : Bool) (n : Half) (f : Bool) :
    (s.publish c o n f).maxPayload = s.maxPayload := rfl
@[simp] theorem State.publish_inp (c : BitVec 3) (o : Bool) (n : Half) (f : Bool) :
    (s.publish c o n f).inp = s.inp := rfl
@[simp] theorem State.publish_out (c : BitVec 3) (o : Bool) (n : Half) (f : Bool) :
    (s.publish c o n f).out = s.out := rfl
@[simp] theorem State.publish_cycle (c : BitVec 3) (o : Bool) (n : Half) (f : Bool) :
    (s.publish c o n f).cycle = s.cycle := rfl
@[simp] theorem State.publish_schedule (c : BitVec 3) (o : Bool) (n : Half) (f : Bool) :
    (s.publish c o n f).schedule = s.schedule := rfl
@[simp] theorem State.publish_sent (c : BitVec 3) (o : Bool) (n : Half) (f : Bool) :
    (s.publish c o n f).sent = s.sent := rfl
@[simp] theorem State.publish_taken (c : BitVec 3) (o : Bool) (n : Half) (f : Bool) :
    (s.publish c o n f).taken = s.taken := rfl

/-! ## State.badCommand -/

@[simp] theorem State.badCommand_state : s.badCommand.state = phaseIdle := rfl
@[simp] theorem State.badCommand_op : s.badCommand.op = s.op := rfl
@[simp] theorem State.badCommand_sidx : s.badCommand.sidx = s.sidx := rfl
@[simp] theorem State.badCommand_tidx : s.badCommand.tidx = s.tidx := rfl
@[simp] theorem State.badCommand_txlen : s.badCommand.txlen = s.txlen := rfl
@[simp] theorem State.badCommand_hidx : s.badCommand.hidx = s.hidx := rfl
@[simp] theorem State.badCommand_pcnt : s.badCommand.pcnt = s.pcnt := rfl
@[simp] theorem State.badCommand_dlen : s.badCommand.dlen = s.dlen := rfl
@[simp] theorem State.badCommand_hdr : s.badCommand.hdr = s.hdr := rfl
@[simp] theorem State.badCommand_elapsed : s.badCommand.elapsed = s.elapsed := rfl
@[simp] theorem State.badCommand_done : s.badCommand.done = true := rfl
@[simp] theorem State.badCommand_ok : s.badCommand.ok = false := rfl
@[simp] theorem State.badCommand_notify : s.badCommand.notify = false := rfl
@[simp] theorem State.badCommand_cerr : s.badCommand.cerr = s.cerr := rfl
@[simp] theorem State.badCommand_cause : s.badCommand.cause = causeBadcmd := rfl
@[simp] theorem State.badCommand_event : s.badCommand.event = s.event := rfl
@[simp] theorem State.badCommand_plen : s.badCommand.plen = 0 := rfl
@[simp] theorem State.badCommand_txbuf : s.badCommand.txbuf = s.txbuf := rfl
@[simp] theorem State.badCommand_rxbuf : s.badCommand.rxbuf = s.rxbuf := rfl
@[simp] theorem State.badCommand_maxPayload : s.badCommand.maxPayload = s.maxPayload := rfl
@[simp] theorem State.badCommand_inp : s.badCommand.inp = s.inp := rfl
@[simp] theorem State.badCommand_out : s.badCommand.out = s.out := rfl
@[simp] theorem State.badCommand_cycle : s.badCommand.cycle = s.cycle := rfl
@[simp] theorem State.badCommand_schedule : s.badCommand.schedule = s.schedule := rfl
@[simp] theorem State.badCommand_sent : s.badCommand.sent = s.sent := rfl
@[simp] theorem State.badCommand_taken : s.badCommand.taken = s.taken := rfl

/-! ## State.sample -/

@[simp] theorem State.sample_state (p : Pins) : (s.sample p).state = s.state := rfl
@[simp] theorem State.sample_op (p : Pins) : (s.sample p).op = s.op := rfl
@[simp] theorem State.sample_sidx (p : Pins) : (s.sample p).sidx = s.sidx := rfl
@[simp] theorem State.sample_tidx (p : Pins) : (s.sample p).tidx = s.tidx := rfl
@[simp] theorem State.sample_txlen (p : Pins) : (s.sample p).txlen = s.txlen := rfl
@[simp] theorem State.sample_hidx (p : Pins) : (s.sample p).hidx = s.hidx := rfl
@[simp] theorem State.sample_pcnt (p : Pins) : (s.sample p).pcnt = s.pcnt := rfl
@[simp] theorem State.sample_dlen (p : Pins) : (s.sample p).dlen = s.dlen := rfl
@[simp] theorem State.sample_hdr (p : Pins) : (s.sample p).hdr = s.hdr := rfl
@[simp] theorem State.sample_elapsed (p : Pins) : (s.sample p).elapsed = s.elapsed := rfl
@[simp] theorem State.sample_done (p : Pins) : (s.sample p).done = s.done := rfl
@[simp] theorem State.sample_ok (p : Pins) : (s.sample p).ok = s.ok := rfl
@[simp] theorem State.sample_notify (p : Pins) : (s.sample p).notify = s.notify := rfl
@[simp] theorem State.sample_cerr (p : Pins) : (s.sample p).cerr = s.cerr := rfl
@[simp] theorem State.sample_cause (p : Pins) : (s.sample p).cause = s.cause := rfl
@[simp] theorem State.sample_event (p : Pins) : (s.sample p).event = s.event := rfl
@[simp] theorem State.sample_plen (p : Pins) : (s.sample p).plen = s.plen := rfl
@[simp] theorem State.sample_txbuf (p : Pins) : (s.sample p).txbuf = s.txbuf := rfl
@[simp] theorem State.sample_rxbuf (p : Pins) : (s.sample p).rxbuf = s.rxbuf := rfl
@[simp] theorem State.sample_maxPayload (p : Pins) : (s.sample p).maxPayload = s.maxPayload := rfl
@[simp] theorem State.sample_inp (p : Pins) : (s.sample p).inp = p := rfl
@[simp] theorem State.sample_out (p : Pins) : (s.sample p).out = Ports.none := rfl
@[simp] theorem State.sample_cycle (p : Pins) : (s.sample p).cycle = s.cycle + 1 := rfl
@[simp] theorem State.sample_schedule (p : Pins) : (s.sample p).schedule = s.schedule.tail := rfl
@[simp] theorem State.sample_sent (p : Pins) : (s.sample p).sent = s.sent := rfl
@[simp] theorem State.sample_taken (p : Pins) : (s.sample p).taken = s.taken := rfl

/-! ## State.resetRegisters -/

@[simp] theorem State.resetRegisters_state : s.resetRegisters.state = 0 := rfl
@[simp] theorem State.resetRegisters_op : s.resetRegisters.op = 0 := rfl
@[simp] theorem State.resetRegisters_sidx : s.resetRegisters.sidx = 0 := rfl
@[simp] theorem State.resetRegisters_tidx : s.resetRegisters.tidx = 0 := rfl
@[simp] theorem State.resetRegisters_txlen : s.resetRegisters.txlen = 0 := rfl
@[simp] theorem State.resetRegisters_hidx : s.resetRegisters.hidx = 0 := rfl
@[simp] theorem State.resetRegisters_pcnt : s.resetRegisters.pcnt = 0 := rfl
@[simp] theorem State.resetRegisters_dlen : s.resetRegisters.dlen = 0 := rfl
@[simp] theorem State.resetRegisters_hdr : s.resetRegisters.hdr = Header.zero := rfl
@[simp] theorem State.resetRegisters_elapsed : s.resetRegisters.elapsed = 0 := rfl
@[simp] theorem State.resetRegisters_done : s.resetRegisters.done = false := rfl
@[simp] theorem State.resetRegisters_ok : s.resetRegisters.ok = false := rfl
@[simp] theorem State.resetRegisters_notify : s.resetRegisters.notify = false := rfl
@[simp] theorem State.resetRegisters_cerr : s.resetRegisters.cerr = false := rfl
@[simp] theorem State.resetRegisters_cause : s.resetRegisters.cause = 0 := rfl
@[simp] theorem State.resetRegisters_event : s.resetRegisters.event = 0 := rfl
@[simp] theorem State.resetRegisters_plen : s.resetRegisters.plen = 0 := rfl
@[simp] theorem State.resetRegisters_txbuf : s.resetRegisters.txbuf = [] := rfl
@[simp] theorem State.resetRegisters_rxbuf : s.resetRegisters.rxbuf = [] := rfl
@[simp] theorem State.resetRegisters_maxPayload : s.resetRegisters.maxPayload = s.maxPayload := rfl
@[simp] theorem State.resetRegisters_inp : s.resetRegisters.inp = s.inp := rfl
@[simp] theorem State.resetRegisters_out : s.resetRegisters.out = s.out := rfl
@[simp] theorem State.resetRegisters_cycle : s.resetRegisters.cycle = s.cycle := rfl
@[simp] theorem State.resetRegisters_schedule : s.resetRegisters.schedule = s.schedule := rfl
@[simp] theorem State.resetRegisters_sent : s.resetRegisters.sent = s.sent := rfl
@[simp] theorem State.resetRegisters_taken : s.resetRegisters.taken = s.taken := rfl

/-! ## State.insertStep -/

@[simp] theorem State.insertStep_state (p : Pins) : (s.insertStep p).state = s.state := rfl
@[simp] theorem State.insertStep_op (p : Pins) : (s.insertStep p).op = s.op := rfl
@[simp] theorem State.insertStep_sidx (p : Pins) : (s.insertStep p).sidx = s.sidx := rfl
@[simp] theorem State.insertStep_tidx (p : Pins) : (s.insertStep p).tidx = s.tidx := rfl
@[simp] theorem State.insertStep_txlen (p : Pins) : (s.insertStep p).txlen = s.txlen := rfl
@[simp] theorem State.insertStep_hidx (p : Pins) : (s.insertStep p).hidx = s.hidx := rfl
@[simp] theorem State.insertStep_pcnt (p : Pins) : (s.insertStep p).pcnt = s.pcnt := rfl
@[simp] theorem State.insertStep_dlen (p : Pins) : (s.insertStep p).dlen = s.dlen := rfl
@[simp] theorem State.insertStep_hdr (p : Pins) : (s.insertStep p).hdr = s.hdr := rfl
@[simp] theorem State.insertStep_elapsed (p : Pins) : (s.insertStep p).elapsed = s.elapsed := rfl
@[simp] theorem State.insertStep_done (p : Pins) : (s.insertStep p).done = s.done := rfl
@[simp] theorem State.insertStep_ok (p : Pins) : (s.insertStep p).ok = s.ok := rfl
@[simp] theorem State.insertStep_notify (p : Pins) : (s.insertStep p).notify = s.notify := rfl
@[simp] theorem State.insertStep_cerr (p : Pins) : (s.insertStep p).cerr = s.cerr := rfl
@[simp] theorem State.insertStep_cause (p : Pins) : (s.insertStep p).cause = s.cause := rfl
@[simp] theorem State.insertStep_event (p : Pins) : (s.insertStep p).event = s.event := rfl
@[simp] theorem State.insertStep_plen (p : Pins) : (s.insertStep p).plen = s.plen := rfl
@[simp] theorem State.insertStep_txbuf (p : Pins) : (s.insertStep p).txbuf = s.txbuf := rfl
@[simp] theorem State.insertStep_rxbuf (p : Pins) : (s.insertStep p).rxbuf = s.rxbuf := rfl
@[simp] theorem State.insertStep_maxPayload (p : Pins) :
    (s.insertStep p).maxPayload = s.maxPayload := rfl
@[simp] theorem State.insertStep_inp (p : Pins) : (s.insertStep p).inp = s.inp := rfl
@[simp] theorem State.insertStep_out (p : Pins) : (s.insertStep p).out = s.out := rfl
@[simp] theorem State.insertStep_cycle (p : Pins) : (s.insertStep p).cycle = s.cycle := rfl
@[simp] theorem State.insertStep_schedule (p : Pins) :
    (s.insertStep p).schedule = p :: s.schedule := rfl
@[simp] theorem State.insertStep_sent (p : Pins) : (s.insertStep p).sent = s.sent := rfl
@[simp] theorem State.insertStep_taken (p : Pins) : (s.insertStep p).taken = s.taken := rfl

end Sys2Proof.Machine
end

