-- ==== Sys2Proof/Laws/Ops.lean ====
section
/-! SUPPORT. What each shared operation can do, said once: outcomes, arithmetic, the receive sub-steps, the
end of the receive phase, the host access, and the step. -/

namespace Sys2Proof.Machine

/-! ## Outcomes -/

@[simp] theorem andThen_next (s : State) (f : State → Host.Outcome State Fault Refusal) :
    andThen (.next s) f = f s := rfl

@[simp] theorem andThen_fault (r : Fault) (f : State → Host.Outcome State Fault Refusal) :
    andThen (.fault r) f = .fault r := rfl

@[simp] theorem andThen_refused (r : Refusal) (f : State → Host.Outcome State Fault Refusal) :
    andThen (.refused r) f = .refused r := rfl

/-- A composition answers a next state exactly when both parts do. -/
theorem andThen_eq_next {r : Host.Outcome State Fault Refusal}
    {f : State → Host.Outcome State Fault Refusal} {t : State} :
    andThen r f = .next t ↔ ∃ u, r = .next u ∧ f u = .next t := by
  cases r <;> simp [andThen]

/-- A composition after a choice is the choice of the compositions. -/
theorem andThen_ite {c : Prop} [Decidable c] (r q : Host.Outcome State Fault Refusal)
    (f : State → Host.Outcome State Fault Refusal) :
    andThen (if c then r else q) f = if c then andThen r f else andThen q f := by
  split <;> rfl

/-! ## Arithmetic -/

@[simp] theorem hiByte_toNat (v : Half) : (hiByte v).toNat = v.toNat / 256 := by
  have := v.isLt
  simp only [hiByte, BitVec.toNat_ofNat]
  omega

@[simp] theorem loByte_toNat (v : Half) : (loByte v).toNat = v.toNat % 256 := by
  simp [loByte]

@[simp] theorem joinBytes_toNat (hi lo : Byte) : (joinBytes hi lo).toNat = hi.toNat * 256 + lo.toNat := by
  have := hi.isLt
  have := lo.isLt
  simp only [joinBytes, BitVec.toNat_ofNat]
  omega

/-- The two host-visible halves of a register make the register (R51). -/
theorem joinBytes_hi_lo (v : Half) : joinBytes (hiByte v) (loByte v) = v := by
  apply BitVec.eq_of_toNat_eq
  simp only [joinBytes_toNat, hiByte_toNat, loByte_toNat]
  omega

theorem sat16Succ_toNat (v : Half) : (sat16Succ v).toNat = min (v.toNat + 1) 0xFFFF := by
  simp only [sat16Succ, BitVec.toNat_ofNat]
  omega

/-- The terminator test over the natural numbers. -/
theorem terminates_iff (hidx dlen : Half) (b : Byte) :
    terminates hidx dlen b = true ↔ dlen.toNat + 5 ≤ hidx.toNat ∧ b = endByte := by
  simp only [terminates, decide_eq_true_eq]
  exact and_congr_left' (by omega)

/-! ## The receive sub-steps -/

/-- `tick()` changes at most `ELAPSED` (R91). -/
theorem State.tick_eq (s : State) :
    s.tick = { s with elapsed := if s.inp.tickMs then sat16Succ s.elapsed else s.elapsed } := by
  unfold State.tick
  split <;> rfl

/-- Resynchronisation changes at most the two counters (R94). -/
theorem State.resync_eq (s : State) (b : Byte) :
    s.resync b = { s with
      hidx := if b = startByte then 0 else s.hidx
      pcnt := if b = startByte then 0 else s.pcnt } := by
  unfold State.resync
  split <;> rfl

/-- Header capture changes at most the header buffer (R96). -/
theorem State.captureHeader_eq (s : State) (b : Byte) :
    s.captureHeader b = { s with
      hdr := if s.hidx.toNat ≤ 5 then s.hdr.set s.hidx.toNat b else s.hdr } := by
  unfold State.captureHeader
  split <;> rfl

/-- The length latch changes at most `DLEN` (R97). -/
theorem State.latchLength_eq (s : State) :
    s.latchLength = { s with
      dlen := if s.hidx.toNat = 5 then s.hdr.declaredLength else s.dlen } := by
  unfold State.latchLength
  split <;> rfl

/-- Payload capture either appends one byte inside `RXBUF` or changes nothing (R95). -/
theorem State.capturePayload_cases {s t : State} {b : Byte} (h : s.capturePayload b = some t) :
    (s.pcnt.toNat < s.dlen.toNat ∧ s.pcnt.toNat < s.maxPayload.toNat ∧
      t = { s with rxbuf := s.rxbuf.set s.pcnt.toNat b, pcnt := s.pcnt + 1 }) ∨
    (s.dlen.toNat ≤ s.pcnt.toNat ∧ t = s) := by
  unfold State.capturePayload at h
  by_cases hc : s.dlen ≠ 0 ∧ s.pcnt.toNat < s.dlen.toNat
  · rw [if_pos hc] at h
    split at h
    · exact .inl ⟨hc.2, ‹_›, by simpa using h.symm⟩
    · cases h
  · rw [if_neg hc] at h
    refine .inr ⟨?_, by simpa using h.symm⟩
    by_contra hlt
    exact hc ⟨fun h0 => by simp [h0] at hlt, by omega⟩

/-- Payload capture has no place for the byte only at or beyond the ceiling (R95, R42 item 2). -/
theorem State.capturePayload_eq_none {s : State} {b : Byte} (h : s.capturePayload b = none) :
    s.maxPayload.toNat ≤ s.pcnt.toNat := by
  unfold State.capturePayload at h
  split at h
  · split at h
    · cases h
    · omega
  · cases h

/-! ## The end of the receive phase -/

/-- The classification of a completed frame is the meaning of its opcode-table row (R69, R107). -/
theorem classify_eq_exec {s : State} {c : FrameClass}
    (h : frameClass s.op s.hdr.cmdType s.hdr.cmdId = some c) : classify s = exec c.toInstr s := by
  unfold classify
  rw [h]
  cases c <;> rfl

/-- Under an operation no rule writes there is no classification (log 12). -/
theorem classify_eq_next {s : State} (h : frameClass s.op s.hdr.cmdType s.hdr.cmdId = none) :
    classify s = .next s := by
  unfold classify
  rw [h]

/-- Classification changes at most `CAUSE`, `OK`, `PLEN`, `NOTIFY` and `EVENT` (R108 to R111). -/
theorem classify_cases (s : State) : ∃ (c : BitVec 3) (o : Bool) (n : Half) (f : Bool) (e : Byte),
    classify s = .next { s.publish c o n f with event := e } := by
  unfold classify
  split
  · exact ⟨causeNack, false, 0, false, s.event, rfl⟩
  · exact ⟨causeNone, true, s.dlen, true, s.event, rfl⟩
  · exact ⟨causeNone, true, s.dlen, false, s.event, rfl⟩
  · exact ⟨causeNone, true, s.dlen, true, _, rfl⟩
  · exact ⟨causeNone, true, s.dlen, false, 0, rfl⟩
  · exact ⟨s.cause, s.ok, s.plen, s.notify, s.event, rfl⟩

/-- The end of the receive phase always answers a next state, in POSTDRAIN, and writes only result
registers (R107). -/
theorem finishRx_cases (o : RxOutcome) (s : State) :
    ∃ (c : BitVec 3) (k : Bool) (n : Half) (f : Bool) (e : Byte),
      finishRx o s = .next { { s with state := phasePostdrain }.publish c k n f with event := e } := by
  cases o with
  | complete =>
    obtain ⟨c, k, n, f, e, h⟩ := classify_cases
      { s with state := phasePostdrain, notify := s.hdr.isNotification }
    exact ⟨c, k, n, f, e, h⟩
  | timeout => exact ⟨causeTimeout, false, 0, false, s.event, rfl⟩
  | incomplete => exact ⟨causeIncomplete, false, 0, false, s.event, rfl⟩

/-- A consumed byte ends reception by completion, else by the ceiling, else reception goes on (R98, R99,
R100, R91). -/
theorem closeByte_cases (b : Byte) (s : State) :
    (s.dlen.toNat + 5 ≤ s.hidx.toNat ∧ b = endByte ∧ closeByte b s = finishRx .complete s) ∨
    (¬ (s.dlen.toNat + 5 ≤ s.hidx.toNat ∧ b = endByte) ∧ s.maxPayload.toNat ≤ s.pcnt.toNat ∧
      closeByte b s = finishRx .incomplete { s with hidx := sat16Succ s.hidx }) ∨
    (¬ (s.dlen.toNat + 5 ≤ s.hidx.toNat ∧ b = endByte) ∧ s.pcnt.toNat < s.maxPayload.toNat ∧
      closeByte b s = .next { s with hidx := sat16Succ s.hidx }.tick) := by
  unfold closeByte
  by_cases ht : terminates s.hidx s.dlen b = true
  · have h := (terminates_iff ..).1 ht
    exact .inl ⟨h.1, h.2, if_pos ht⟩
  · have h := mt (terminates_iff ..).2 ht
    by_cases hc : s.maxPayload.toNat ≤ s.pcnt.toNat
    · exact .inr (.inl ⟨h, hc, (if_neg ht).trans (if_pos hc)⟩)
    · exact .inr (.inr ⟨h, Nat.lt_of_not_le hc, (if_neg ht).trans (if_neg hc)⟩)

/-! ## The host access and the step -/

/-- What a bus-word row can do to the state: a read drives `bus_rdata`, a command is accepted, a refused
write sets `CERR`, a command byte is written, or nothing happens (R74 to R81). -/
theorem busWord_cases (w : BitVec 26) (s : State) : ∃ t, exec (decodeBusWord w) s = .next t ∧
    ((∃ b, t = s.driveRdata b) ∨ (s.state = phaseIdle ∧ t = s.accept opExecute) ∨
      (s.state = phaseIdle ∧ t = s.accept opPoll) ∨ t = s.refuseWrite ∨
      (s.state = phaseIdle ∧ ∃ k b, k < txbufSize ∧ t = { s with txbuf := s.txbuf.set k b }) ∨
      t = s) := by
  unfold decodeBusWord
  split
  · exact ⟨_, rfl, .inl ⟨_, rfl⟩⟩
  · split
    · split
      · simp only [exec, execWrCmdExecute, State.command]
        split
        · exact ⟨_, rfl, .inr (.inl ⟨‹_›, rfl⟩)⟩
        · exact ⟨_, rfl, by simp⟩
      · split
        · simp only [exec, execWrCmdPoll, State.command]
          split
          · exact ⟨_, rfl, .inr (.inr (.inl ⟨‹_›, rfl⟩))⟩
          · exact ⟨_, rfl, by simp⟩
        · simp only [exec, execWrCmdRsvd]
          split
          · split
            · exact ⟨_, rfl, by simp⟩
            · exact ⟨_, rfl, by simp⟩
          · exact ⟨_, rfl, by simp⟩
    · split
      · simp only [exec, execWrTxbuf]
        split
        · exact ⟨_, rfl, .inr (.inr (.inr (.inr (.inl ⟨‹_›, _, _, BitVec.isLt _, rfl⟩))))⟩
        · exact ⟨_, rfl, by simp⟩
      · exact ⟨_, rfl, by simp⟩

/-- What a step that answers a next state did: a reset, or the host access of the step and then the phase
rule of the state at its start (R83, R117). -/
theorem step_cases {s t : State} (h : step s = .next t) :
    (s.nextPins.rst = true ∧ t = s.resetStep s.nextPins) ∨
    (s.nextPins.rst = false ∧ contractHolds s s.nextPins = true ∧
      (s.nextPins.busEn && s.nextPins.busWide) = false ∧
      ∃ u, hostAccess s.nextPins (s.sample s.nextPins) = .next u ∧
        exec (decodePhase s.state) u = .next t) := by
  unfold step at h
  cases hr : s.nextPins.rst <;> rw [hr] at h
  · cases hc : contractHolds s s.nextPins <;> rw [hc] at h
    · cases h
    · cases hw : (s.nextPins.busEn && s.nextPins.busWide) <;> rw [hw] at h
      · exact .inr ⟨rfl, rfl, rfl, andThen_eq_next.1 h⟩
      · cases h
  · exact .inl ⟨rfl, by simpa using h.symm⟩

/-- A step without reset and without a host access, with the transport contract kept, is the phase rule of
`STATE` alone (R10, R83). -/
theorem step_undisturbed {s : State} {p : Pins} {rest : List Pins} (hs : s.schedule = p :: rest)
    (hr : p.rst = false) (hb : p.busEn = false) (hc : contractHolds s p = true) :
    step s = exec (decodePhase s.state) (s.sample p) := by
  have hp : s.nextPins = p := by rw [State.nextPins, hs]
  simp [step, hp, hr, hc, hb, hostAccess]

/-- The transport contract holds in any step after one that popped what it saw and pushed nothing. -/
theorem contractHolds_of_popped {s : State} {p : Pins} (hr : s.inp.rxValid = true → s.out.rxPop = true)
    (ht : s.out.txPush = none) : contractHolds s p = true := by
  cases hv : s.inp.rxValid <;> simp_all [contractHolds, receiveContract, transmitContract]

/-- A run of `k + 1` steps is one step and a run of `k`. -/
theorem core_run_succ (k : Nat) (s : State) :
    Sys2Proof.core.run (k + 1) s = andThen (step s) (Sys2Proof.core.run k) := by
  have h : ∀ r : Host.Outcome State Fault Refusal, step s = r →
      Sys2Proof.core.run (k + 1) s = andThen r (Sys2Proof.core.run k) := by
    intro r hr
    have hc : Sys2Proof.core.step s = r := hr
    cases r <;> simp only [Host.Core.run, hc] <;> rfl
  exact h _ rfl

end Sys2Proof.Machine
end

