-- ==== Sys2Proof/Laws/PerInstr.lean ====
section
/-! SUPPORT. Facts about every row of spec/opcode_table.json, one lemma per constructor. -/

namespace Sys2Proof.Laws

/-- `mask` and `match` of a row of spec/opcode_table.json. -/
def tableRow : Instr → Nat × Nat
  | .rd _ => (0x2000000, 0x0000000)
  | .wrCmdExecute => (0x3FFFFFF, 0x2000001)
  | .wrCmdPoll => (0x3FFFFFF, 0x2000002)
  | .wrCmdRsvd _ => (0x3FFFF00, 0x2000000)
  | .wrTxbuf _ _ => (0x3FF0000, 0x2010000)
  | .wrIgnored _ _ => (0x2000000, 0x2000000)
  | .stateIdle => (0x7, 0x0)
  | .statePredrain => (0x7, 0x1)
  | .stateScan => (0x7, 0x2)
  | .stateTxsend => (0x7, 0x3)
  | .stateTxflush => (0x7, 0x4)
  | .stateRxwait => (0x7, 0x5)
  | .statePostdrain => (0x7, 0x6)
  | .stateUnused7 => (0x7, 0x7)
  | .rxclassExecuteNack => (0xFFFF, 0x0002)
  | .rxclassExecuteNotify _ => (0xFF00, 0x0700)
  | .rxclassExecuteReply _ _ => (0x0000, 0x0000)
  | .rxclassPollNotify _ => (0xFF00, 0x0700)
  | .rxclassPollOther _ _ => (0x0000, 0x0000)

/-- A row's encoding matches the row's own `mask` and `match` in the opcode table. -/
def MatchesRow.Statement (i : Instr) : Prop :=
  encodeNumber i &&& (tableRow i).1 = (tableRow i).2

/-- Masking with the `n − k` high bits of an `n`-bit number clears the `k` low ones. -/
theorem and_high_bits {w n k : Nat} (hw : w < 2 ^ n) (hk : k ≤ n) :
    w &&& ((2 ^ (n - k) - 1) * 2 ^ k) = w / 2 ^ k * 2 ^ k := by
  apply Nat.eq_of_testBit_eq
  intro i
  rw [Nat.testBit_and, Nat.testBit_mul_two_pow, Nat.testBit_mul_two_pow, Nat.testBit_div_two_pow,
    Nat.testBit_two_pow_sub_one]
  by_cases hi : k ≤ i
  · by_cases hn : i < n
    · have : i - k < n - k := by omega
      simp [hi, this]
    · have : w.testBit i = false :=
        Nat.testBit_lt_two_pow (Nat.lt_of_lt_of_le hw (Nat.pow_le_pow_right (by omega) (by omega)))
      simp [this, Nat.sub_add_cancel hi]
  · simp [hi]

/-- The number of a bus word (R67). -/
theorem makeBusWord_toNat (we : Bool) (addr : Addr) (data : Byte) :
    (makeBusWord we addr data).toNat = we.toNat * 2 ^ 25 + addr.toNat * 2 ^ 8 + data.toNat := by
  have := addr.isLt
  have := data.isLt
  cases we <;> simp only [makeBusWord, BitVec.toNat_ofNat, Bool.toNat_true, Bool.toNat_false] <;> omega

/-- A bus word has 26 bits. -/
theorem makeBusWord_lt (we : Bool) (addr : Addr) (data : Byte) :
    (makeBusWord we addr data).toNat < 2 ^ 26 := BitVec.isLt _

theorem MatchesRow.rd (addr : Addr) : MatchesRow.Statement (.rd addr) := by
  have := addr.isLt
  refine (and_high_bits (k := 25) (makeBusWord_lt false addr 0) (by omega)).trans ?_
  simp only [makeBusWord_toNat, Bool.toNat_false, tableRow]
  simp
  omega

theorem MatchesRow.wrCmdExecute : MatchesRow.Statement .wrCmdExecute := rfl

theorem MatchesRow.wrCmdPoll : MatchesRow.Statement .wrCmdPoll := rfl

theorem MatchesRow.wrCmdRsvd (data : Byte) : MatchesRow.Statement (.wrCmdRsvd data) := by
  have := data.isLt
  refine (and_high_bits (k := 8) (makeBusWord_lt true 0 data) (by omega)).trans ?_
  simp only [makeBusWord_toNat, Bool.toNat_true, tableRow]
  simp
  omega

theorem MatchesRow.wrTxbuf (k data : Byte) : MatchesRow.Statement (.wrTxbuf k data) := by
  have := k.isLt
  have := data.isLt
  refine (and_high_bits (k := 16)
    (makeBusWord_lt true (BitVec.ofNat 17 (0x100 + k.toNat)) data) (by omega)).trans ?_
  simp only [makeBusWord_toNat, Bool.toNat_true, tableRow, BitVec.toNat_ofNat]
  omega

theorem MatchesRow.wrIgnored (addr : Addr) (data : Byte) :
    MatchesRow.Statement (.wrIgnored addr data) := by
  have := addr.isLt
  have := data.isLt
  refine (and_high_bits (k := 25) (makeBusWord_lt true addr data) (by omega)).trans ?_
  simp only [makeBusWord_toNat, Bool.toNat_true, tableRow]
  omega

theorem MatchesRow.stateIdle : MatchesRow.Statement .stateIdle := rfl

theorem MatchesRow.statePredrain : MatchesRow.Statement .statePredrain := rfl

theorem MatchesRow.stateScan : MatchesRow.Statement .stateScan := rfl

theorem MatchesRow.stateTxsend : MatchesRow.Statement .stateTxsend := rfl

theorem MatchesRow.stateTxflush : MatchesRow.Statement .stateTxflush := rfl

theorem MatchesRow.stateRxwait : MatchesRow.Statement .stateRxwait := rfl

theorem MatchesRow.statePostdrain : MatchesRow.Statement .statePostdrain := rfl

theorem MatchesRow.stateUnused7 : MatchesRow.Statement .stateUnused7 := rfl

theorem MatchesRow.rxclassExecuteNack : MatchesRow.Statement .rxclassExecuteNack := rfl

/-- The word of a notification matches its row under either operation. -/
theorem notifyWord_matches (id : Byte) :
    makeClassWord Machine.notifyType id &&& 0xFF00 = 0x0700 := by
  have := id.isLt
  have hlt : makeClassWord Machine.notifyType id < 2 ^ 16 := by
    simp [makeClassWord]
    omega
  refine (and_high_bits (k := 8) hlt (by omega)).trans ?_
  simp [makeClassWord]
  omega

theorem MatchesRow.rxclassExecuteNotify (id : Byte) : MatchesRow.Statement (.rxclassExecuteNotify id) :=
  notifyWord_matches id

theorem MatchesRow.rxclassExecuteReply (cmdType id : Byte) :
    MatchesRow.Statement (.rxclassExecuteReply cmdType id) := Nat.and_zero _

theorem MatchesRow.rxclassPollNotify (id : Byte) : MatchesRow.Statement (.rxclassPollNotify id) :=
  notifyWord_matches id

theorem MatchesRow.rxclassPollOther (cmdType id : Byte) :
    MatchesRow.Statement (.rxclassPollOther cmdType id) := Nat.and_zero _

end Sys2Proof.Laws
end

