-- ==== Sys2Proof/Tests/Slice0.lean ====
section
/-! SUPPORT. Small tests of one step each, with expected results from the test vectors of
spec/95_test_vectors.md (cited by their ids) or worked by hand from the rule named, and one witness for each
statement with hypotheses: a concrete state and operands that meet them together. -/

namespace Sys2Proof.Tests

open Sys2Proof.Machine

/-! ## Helpers -/

/-- A view of the next state, or nothing where there is none. -/
def after {α : Type} (r : Host.Outcome State Fault Refusal) (f : State → α) : Option α :=
  match r with
  | .next t => some (f t)
  | .fault _ => none
  | .refused _ => none

/-- The fault a step stops with, if any. -/
def faultOf (r : Host.Outcome State Fault Refusal) : Option Fault :=
  match r with
  | .fault e => some e
  | .next _ => none
  | .refused _ => none

/-- The reset state with `MAX_PAYLOAD = 16`, the parameter of spec/95_test_vectors.md. -/
def idle : State := State.launch 16 []

/-- Command bytes from `TXBUF[0]` on. -/
def commandBytes (bs : List Byte) : Memory := (List.range bs.length).zip bs

/-- `n` bytes 0x00 from index `k` on. -/
def zeros (k : Nat) : Nat → Memory
  | 0 => []
  | n + 1 => (k, 0) :: zeros (k + 1) n

theorem zeros_get (k n a : Nat) :
    (zeros k n).get a = if k ≤ a ∧ a < k + n then some 0 else none := by
  induction n generalizing k with
  | zero => exact (if_neg (by omega)).symm
  | succ n ih =>
    simp only [zeros, Memory.get, ih]
    split
    · exact (if_pos (by omega)).symm
    · split
      · exact (if_pos (by omega)).symm
      · exact (if_neg (by omega)).symm

/-- `n` bytes 0x00 from index 0 on, then the sentinel. -/
def sentinelAt (n : Nat) : Memory := Memory.set (zeros 0 n) n 0xFD

theorem sentinelAt_get (n a : Nat) :
    (sentinelAt n).get a = if a = n then some 0xFD else if a < n then some 0 else none := by
  rw [sentinelAt, Memory.get_set, zeros_get]
  simp

/-- A DPF in RXWAIT at a header position, with a byte on `rx_data`. -/
def receiving (op : BitVec 2) (hidx pcnt dlen : Half) (b : Byte) : State :=
  { idle with
    state := phaseRxwait, op := op, hidx := hidx, pcnt := pcnt, dlen := dlen
    inp := { Pins.quiet with rxValid := true, rxData := b } }

/-- The same with a command type and a command id received. -/
def classifying (op : BitVec 2) (ty id : Byte) (hidx pcnt dlen : Half) (b : Byte) : State :=
  { receiving op hidx pcnt dlen b with hdr := { Header.zero with start := 0xFE, cmdType := ty, cmdId := id } }

/-- Inputs in which the transport presents a byte. -/
def byteIn (b : Byte) : Pins := { Pins.quiet with rxValid := true, rxData := b }

/-- Inputs in which the host writes. -/
def writeIn (a : Addr) (v : Byte) : Pins :=
  { Pins.quiet with busEn := true, busWe := true, busAddr := a, busWdata := v }

/-! ## Well-formedness: each check refuses an ill-formed row -/

theorem test_wf_rsvd_is_not_execute : (Instr.wrCmdRsvd 0x01).wellFormed = false := by decide
theorem test_wf_rsvd_is_not_poll : (Instr.wrCmdRsvd 0x02).wellFormed = false := by decide
theorem test_wf_ignored_is_not_cmd : (Instr.wrIgnored 0x00000 0x05).wellFormed = false := by decide
theorem test_wf_ignored_is_not_txbuf : (Instr.wrIgnored 0x001FF 0x05).wellFormed = false := by decide
theorem test_wf_reply_is_not_notify : (Instr.rxclassExecuteReply 0x07 0x01).wellFormed = false := by
  decide
theorem test_wf_reply_is_not_nack : (Instr.rxclassExecuteReply 0x00 0x02).wellFormed = false := by
  decide
theorem test_wf_other_is_not_notify : (Instr.rxclassPollOther 0x07 0x01).wellFormed = false := by
  decide

/-! ## Decoding: words written out from the encodings -/

/-- B1. -/
theorem test_decode_rd_status : decodeTableWord 32 0x0000100 = some (.rd 0x00001) := by decide
/-- B2: DATA of a read is ignored. -/
theorem test_decode_rd_data_ignored : decodeTableWord 32 0x00000FF = some (.rd 0x00000) := by decide
/-- B4. -/
theorem test_decode_rd_last : decodeTableWord 32 0x1FFFF00 = some (.rd 0x1FFFF) := by decide
/-- B5. -/
theorem test_decode_execute : decodeTableWord 32 0x2000001 = some .wrCmdExecute := by decide
/-- B6. -/
theorem test_decode_poll : decodeTableWord 32 0x2000002 = some .wrCmdPoll := by decide
/-- B7. -/
theorem test_decode_rsvd_zero : decodeTableWord 32 0x2000000 = some (.wrCmdRsvd 0x00) := by decide
/-- B9. -/
theorem test_decode_rsvd_last : decodeTableWord 32 0x20000FF = some (.wrCmdRsvd 0xFF) := by decide
/-- B10. -/
theorem test_decode_txbuf_first : decodeTableWord 32 0x20100FE = some (.wrTxbuf 0x00 0xFE) := by decide
/-- B11. -/
theorem test_decode_txbuf_last : decodeTableWord 32 0x201FFAA = some (.wrTxbuf 0xFF 0xAA) := by decide
/-- B12. -/
theorem test_decode_ignored_status : decodeTableWord 32 0x20001FF = some (.wrIgnored 0x00001 0xFF) := by
  decide
/-- B14. -/
theorem test_decode_ignored_past_txbuf : decodeTableWord 32 0x20200AA = some (.wrIgnored 0x00200 0xAA) := by
  decide
/-- B17. -/
theorem test_decode_ignored_last : decodeTableWord 32 0x3FFFFFF = some (.wrIgnored 0x1FFFF 0xFF) := by
  decide
/-- R67: a bus word has 26 bits. -/
theorem test_decode_no_bit_26 : decodeTableWord 32 0x4000000 = none := by decide
/-- R16: the eight codes. -/
theorem test_decode_phases :
    (List.range 9).map (decodeTableWord 8) =
      [some .stateIdle, some .statePredrain, some .stateScan, some .stateTxsend, some .stateTxflush,
        some .stateRxwait, some .statePostdrain, some .stateUnused7, none] := by decide
/-- R69: `TYPE·256 + ID`, NACK first. -/
theorem test_decode_execute_classes :
    decodeTableWord 16 0x0002 = some .rxclassExecuteNack ∧
    decodeTableWord 16 0x0704 = some (.rxclassExecuteNotify 0x04) ∧
    decodeTableWord 16 0x0003 = some (.rxclassExecuteReply 0x00 0x03) ∧
    decodeTableWord 16 0x010C = some (.rxclassExecuteReply 0x01 0x0C) := by decide
/-- R69: under POLL the NACK pattern is no notification. -/
theorem test_decode_poll_classes :
    decode (.frameClass opPoll) [0xFF, 0x07] = .ok (.rxclassPollNotify 0xFF) ∧
    decode (.frameClass opPoll) [0x02, 0x00] = .ok (.rxclassPollOther 0x00 0x02) := by decide
/-- R69: no class without an operation. -/
theorem test_decode_no_operation : decode (.frameClass 0) [0x02, 0x00] = .error .noOperation := by decide
/-- A word of too few bytes is rejected by name. -/
theorem test_decode_wrong_length : decode .busWord [0x01, 0x00] = .error .wrongLength := by decide

/-! ## Host operations -/

/-- H2. -/
theorem test_rd_parameters :
    (after (exec (.rd 0x00018) idle) (·.out.rdata), after (exec (.rd 0x0001A) idle) (·.out.rdata)) =
      (some (some 0xC8), some (some 0x10)) := by decide
/-- H13, step 10: DONE, OK, NOTIFY and CERR in IDLE read as 1E. -/
theorem test_rd_status :
    after (exec (.rd 0x00001) { idle with done := true, ok := true, notify := true, cerr := true })
      (·.out.rdata) = some (some 0x1E) := by decide
/-- H9. -/
theorem test_execute_accepted :
    after (exec .wrCmdExecute { idle with cerr := true, done := true }) (fun t => (t.state, t.op, t.status)) =
      some (1, 1, 0x01) := by decide
/-- H10. -/
theorem test_execute_refused :
    after (exec .wrCmdExecute { idle with state := 2, sidx := 3, op := 1 })
      (fun t => (t.state, t.sidx, t.cerr)) = some (2, 3, true) := by decide
/-- H6. -/
theorem test_poll_accepted :
    after (exec .wrCmdPoll { idle with cerr := true }) (fun t => (t.state, t.op, t.status)) =
      some (5, 2, 0x01) := by decide
/-- H4. -/
theorem test_reserved_command :
    after (exec (.wrCmdRsvd 0x03) idle) (fun t => (t.state, t.status)) = some (0, 0x10) := by decide
/-- H8. -/
theorem test_txbuf_written :
    after (exec (.wrTxbuf 0xFF 0xFD) idle) (fun t => (t.txByte 255, t.memRead 0x001FF)) =
      some (some 0xFD, 0xFD) := by decide
/-- H11. -/
theorem test_txbuf_refused :
    after (exec (.wrTxbuf 0x03 0x55) { idle with state := 3, txbuf := [(3, 0xAA)] })
      (fun t => (t.txbuf, t.cerr)) = some ([(3, 0xAA)], true) := by decide
/-- H7. -/
theorem test_ignored_write : after (exec (.wrIgnored 0x00001 0xFF) idle) (·.status) = some 0x00 := by decide

/-! ## Transmit phases -/

/-- R82. -/
theorem test_idle_keeps_buffered_input :
    after (exec .stateIdle { idle with inp := byteIn 0x55 }) (fun t => (t.out.rxPop, t.taken)) =
      some (false, []) := by decide
/-- T1. -/
theorem test_predrain_pops :
    after (exec .statePredrain { idle with state := 1, inp := byteIn 0x55 })
      (fun t => (t.state, t.out.rxPop, t.taken)) = some (1, true, [0x55]) := by decide
/-- T2. -/
theorem test_predrain_ends :
    after (exec .statePredrain { idle with state := 1, sidx := 9 }) (fun t => (t.state, t.sidx)) =
      some (2, 0) := by decide
/-- T3. -/
theorem test_scan_sentinel_first :
    after (exec .stateScan { idle with state := 2, txbuf := [(0, 0xFD)] })
      (fun t => (t.state, t.txlen)) = some (3, 1) := by decide
/-- T6, the last SCAN step. -/
theorem test_scan_bad_command :
    after (exec .stateScan { idle with state := 2, sidx := 254, txbuf := [(254, 0x00), (255, 0xFD)] })
      (fun t => (t.state, t.cause, t.status, t.txlen)) = some (0, 4, 0x02, 0) := by decide
/-- T9. -/
theorem test_txsend_waits :
    after (exec .stateTxsend { idle with state := 3, txlen := 1, txbuf := [(0, 0xFD)] })
      (fun t => (t.state, t.tidx, t.out.txPush)) = some (3, 0, none) := by decide
/-- T3: the frame on the wire is FD. -/
theorem test_txsend_last_byte :
    after (exec .stateTxsend { idle with
        state := 3, txlen := 1, txbuf := [(0, 0xFD)], inp := { Pins.quiet with txReady := true } })
      (fun t => (t.state, t.sent)) = some (4, [0xFD]) := by decide
/-- T10. -/
theorem test_txflush :
    (after (exec .stateTxflush { idle with state := 4 }) (·.state),
      after (exec .stateTxflush { idle with state := 4, inp := { Pins.quiet with txIdle := true } })
        (·.state)) = (some 4, some 5) := by decide
/-- X8, `UnreachableState`. -/
theorem test_unused_state : faultOf (exec .stateUnused7 { idle with state := 7 }) = some .unreachableState := by
  decide

/-! ## Reception -/

/-- V14: the last payload byte 0xFD fills RXBUF and completes the frame. -/
theorem test_rxwait_completion_before_ceiling :
    after (exec .stateRxwait (classifying 1 0x01 0x05 21 15 16 0xFD))
      (fun t => (t.state, t.cause, t.plen, t.rxByte 15)) = some (6, 0, 16, some 0xFD) := by decide
/-- V9, its second 0xFE: the stale length 2 captures it. -/
theorem test_rxwait_stale_length :
    after (exec .stateRxwait (classifying 1 0x00 0x01 6 0 2 0xFE))
      (fun t => (t.hidx, t.pcnt, t.rxByte 0, t.dlen)) = some (1, 1, some 0xFE, 2) := by decide
/-- D2. -/
theorem test_postdrain_pops :
    after (exec .statePostdrain { idle with state := 6, inp := byteIn 0xFD })
      (fun t => (t.state, t.done, t.taken)) = some (6, false, [0xFD]) := by decide
/-- D1. -/
theorem test_postdrain_ends :
    after (exec .statePostdrain { idle with state := 6 }) (fun t => (t.state, t.done)) =
      some (0, true) := by decide

/-! ## Frame classes -/

/-- V17. -/
theorem test_class_nack :
    after (exec .rxclassExecuteNack (classifying 1 0x00 0x02 7 1 1 0xFD))
      (fun t => (t.cause, t.ok, t.plen, t.dlen)) = some (2, false, 0, 1) := by decide
/-- CL2. -/
theorem test_class_execute_notify :
    after (exec (.rxclassExecuteNotify 0x04) (classifying 1 0x07 0x04 7 1 1 0xFD))
      (fun t => (t.cause, t.ok, t.notify, t.event, t.plen)) = some (0, true, true, 0, 1) := by decide
/-- V18. -/
theorem test_class_execute_reply :
    after (exec .stateRxwait (classifying 1 0x00 0x03 6 0 0 0xFD))
      (fun t => (t.cause, t.ok, t.notify, t.plen)) = some (0, true, false, 0) := by decide
/-- V21. -/
theorem test_class_poll_notify :
    after (exec (.rxclassPollNotify 0x06) (classifying 2 0x07 0x06 8 2 2 0xFD))
      (fun t => (t.ok, t.notify, t.event, t.plen)) = some (true, true, 0x07, 2) := by decide
/-- V22. -/
theorem test_class_poll_notify_wraps :
    after (exec (.rxclassPollNotify 0xFF) (classifying 2 0x07 0xFF 6 0 0 0xFD))
      (fun t => (t.ok, t.notify, t.event)) = some (true, true, 0x00) := by decide
/-- V24. -/
theorem test_class_poll_other :
    after (exec .stateRxwait (classifying 2 0x00 0x02 6 0 0 0xFD))
      (fun t => (t.cause, t.ok, t.notify, t.event)) = some (0, true, false, 0x00) := by decide

/-! ## The step -/

/-- H13, step 9: the command written in the last POSTDRAIN step is refused. -/
theorem test_step_write_in_last_postdrain_step :
    after (step { idle with state := 6, op := 2, ok := true, schedule := [writeIn 0 0x01] })
      (fun t => (t.state, t.done, t.cerr, t.op)) = some (0, true, true, 2) := by decide
/-- X7. -/
theorem test_step_reset_read :
    after (step { idle with
        state := 3, op := 1, schedule := [{ Pins.quiet with rst := true, busEn := true, busAddr := 0x00013 }] })
      (fun t => (t.state, t.op, t.out.rdata)) = some (0, 0, some 0x00) := by decide
/-- X8, `WideAccess`. -/
theorem test_step_wide_access :
    faultOf (step { idle with
      schedule := [{ Pins.quiet with busEn := true, busAddr := 0x00004, busWide := true }] }) =
      some .wideAccess := by decide
/-- X8, `TransportContract`. -/
theorem test_step_transport_contract :
    faultOf (step { idle with state := 2, inp := byteIn 0xAA, schedule := [byteIn 0xBB] }) =
      some .transportContract := by decide
/-- T7 and R4. -/
theorem test_step_unwritten_command_byte :
    faultOf (step { idle with state := 2, schedule := [Pins.quiet] }) = some .unwrittenCommandByte := by
  decide
/-- A word placed at reset is run by the next step, on the opcode table's own numbering. -/
theorem test_place_bus_word :
    after (step (idle.withFetchWord 32 0x20100FE)) (fun t => t.txByte 0) = some (some 0xFE) := by decide
theorem test_place_frame_class :
    after (step (idle.withFetchWord 16 0x0002)) (fun t => (t.state, t.cause)) = some (6, 2) := by decide

/-! ## The host's side -/

/-- R72, P2: POLLEV is the write of 0x02 to CMD and then WAITIDLE. -/
theorem test_expand_pollev : HostOp.pollEv.expand = [.access 0x2000002, .waitIdle] := by decide
/-- R72, P6. -/
theorem test_expand_loadtx :
    (HostOp.loadTx [0x00, 0x01]).expand = [.access 0x2010000, .access 0x2010101] := by decide

/-- R149, P5: a step without an access ends no run while an access is left, though `STATE = IDLE` there; the
read in the second step does. -/
theorem test_run_with_pause :
    (match runProgram [.pause, .access 0x0000100] [Pins.quiet] idle with
      | .next none => true
      | _ => false) = true ∧
    (match runProgram [.pause, .access 0x0000100] [Pins.quiet, Pins.quiet] idle with
      | .next (some t) => some (t.cycle, t.out.rdata, t.state)
      | _ => none) = some (2, some 0x00, 0) := by decide
/-- R149: a run ends at the host's last access, whatever steps without an access were to follow. -/
theorem test_run_ends_before_pauses :
    (match runProgram [.access 0x2010000, .pause] [Pins.quiet, Pins.quiet] idle with
      | .next (some t) => some (t.cycle, t.txByte 0)
      | _ => none) = some (1, some 0x00) := by decide

/-! ## Witnesses: each shows that the hypotheses of a statement can be met together -/

/-- Inputs in which the host reads. -/
def readIn (a : Addr) : Pins := { Pins.quiet with busEn := true, busAddr := a }

/-- A strobe and nothing else. -/
def tickIn : Pins := { Pins.quiet with tickMs := true }

/-- Runs answer this state, or the reset state where they stop. -/
def landing (n : Nat) (s : State) : State :=
  match Sys2Proof.core.run n s with
  | .next t => t
  | .fault _ => State.reset
  | .refused _ => State.reset

theorem test_witness_DecodeEncodeAgree :
    (Instr.wrCmdRsvd 0x03).WellFormed ∧ (Instr.wrIgnored 0x00200 0x00).WellFormed ∧
      (Instr.rxclassExecuteReply 0x00 0x03).WellFormed ∧ (Instr.rxclassPollOther 0x00 0x02).WellFormed := by
  decide

theorem test_witness_EveryFrameHasItsClass :
    (opExecute = opExecute ∨ opExecute = opPoll) ∧ (opPoll = opExecute ∨ opPoll = opPoll) := by decide

/-- No access in SCAN; a refused write in SCAN; a read in IDLE. -/
theorem test_witness_StepRunsDecodedRows :
    (∀ p ∈ [Pins.quiet, writeIn 0 0x01], ∀ s ∈ [{ idle with state := 2, schedule := [p] }],
      s.nextPins.rst = false ∧ contractHolds s s.nextPins = true ∧
        (s.nextPins.busEn = true → s.nextPins.busWide = false) ∧
        decode .phaseCode [s.state.setWidth 8] = .ok .stateScan) ∧
    (∀ s ∈ [{ idle with schedule := [readIn 0x00001] }],
      s.nextPins.busEn = true ∧ contractHolds s s.nextPins = true ∧ s.state = phaseIdle ∧
        decode .phaseCode [s.state.setWidth 8] = .ok .stateIdle ∧
        decode .busWord (bytesOfNumber 4 (pinsBusWord s.nextPins).toNat) = .ok (.rd 0x00001)) := by
  decide

theorem test_witness_RefusedWriteLeavesPhaseRule :
    ({ idle with state := 5 } : State).state ≠ phaseIdle ∧ Instr.stateRxwait.format = .phaseCode ∧
      (Instr.wrTxbuf 0 0xFE = .wrCmdExecute ∨ Instr.wrTxbuf 0 0xFE = .wrCmdPoll ∨
        (∃ v, Instr.wrTxbuf 0 0xFE = .wrCmdRsvd v) ∨ ∃ k v, Instr.wrTxbuf 0 0xFE = .wrTxbuf k v) :=
  ⟨by decide, rfl, .inr (.inr (.inr ⟨_, _, rfl⟩))⟩

theorem test_witness_ReadLeavesPhaseRule : Instr.statePredrain.format = .phaseCode := rfl

theorem test_witness_ResetOverridesEverything :
    ({ idle with state := 7, schedule := [{ Pins.quiet with rst := true }] } : State).nextPins.rst = true := by
  decide

/-- Each disjunct: the byte withdrawn, the byte changed, `tx_idle` right after a push. -/
theorem test_witness_TransportContractFault :
    faultOf (step { idle with inp := byteIn 0xAA, schedule := [Pins.quiet] }) = some .transportContract ∧
    faultOf (step { idle with inp := byteIn 0xAA, schedule := [byteIn 0xAB] }) = some .transportContract ∧
    faultOf (step { idle with
      out := { Ports.none with txPush := some 0xFD }
      schedule := [{ Pins.quiet with txIdle := true }] }) = some .transportContract := by decide

/-- Each fault with its condition. -/
theorem test_witness_ModelFaultConditions :
    (∀ s ∈ [{ idle with schedule := [{ Pins.quiet with busEn := true, busWide := true }] },
        { idle with state := 7, schedule := [Pins.quiet] },
        { idle with state := 2, schedule := [Pins.quiet] }],
      s.nextPins.rst = false ∧ contractHolds s s.nextPins = true) ∧
    faultOf (step { idle with schedule := [{ Pins.quiet with busEn := true, busWide := true }] }) =
      some .wideAccess ∧
    faultOf (step { idle with state := 7, schedule := [Pins.quiet] }) = some .unreachableState ∧
    faultOf (step { idle with state := 2, schedule := [Pins.quiet] }) = some .unwrittenCommandByte := by
  decide

/-- The last bytes of both buffers and the first window address past `RXBUF`. -/
theorem test_witness_WindowContents :
    ∀ s ∈ [{ idle with txbuf := [(255, 0xFD)], rxbuf := [(15, 0x99)] }],
      s.txByte 255 = some 0xFD ∧ s.memRead 0x001FF = 0xFD ∧ s.rxByte 15 = some 0x99 ∧
        15 < s.maxPayload.toNat ∧ s.memRead 0x1000F = 0x99 ∧ s.maxPayload.toNat ≤ 16 ∧
        s.memRead 0x10010 = 0 := by decide

theorem test_witness_ExecuteAccepted : idle.state = phaseIdle := rfl
theorem test_witness_PollAccepted : ({ idle with done := true } : State).state = phaseIdle := rfl

theorem test_witness_BusyWritesRefused :
    ({ idle with state := 6 } : State).state ≠ phaseIdle ∧
      (Instr.wrCmdExecute = .wrCmdExecute ∨ Instr.wrCmdExecute = .wrCmdPoll ∨
        (∃ v, Instr.wrCmdExecute = .wrCmdRsvd v) ∨ ∃ k v, Instr.wrCmdExecute = .wrTxbuf k v) :=
  ⟨by decide, .inl rfl⟩

theorem test_witness_ReservedCommandRefused :
    idle.state = phaseIdle ∧ (0x03 : Byte) ≠ 0x01 ∧ (0x03 : Byte) ≠ 0x02 := by decide

theorem test_witness_CommandByteWritten :
    after (exec (.wrTxbuf 0x00 0xFE) idle) (·.txByte 0) = some (some 0xFE) ∧ idle.state = phaseIdle := by
  decide

theorem test_witness_CommandByteReadsBack :
    ∃ t, idle.state = phaseIdle ∧ exec (.wrTxbuf 0xFF 0xFD) idle = .next t ∧ t.memRead 0x001FF = 0xFD :=
  ⟨_, rfl, rfl, by decide⟩

theorem test_witness_PredrainStep :
    ({ idle with inp := byteIn 0x55 } : State).inp.rxValid = true ∧ idle.inp.rxValid = false := by decide

/-- Each clause, at index 254 and at its neighbour. -/
theorem test_witness_ScanStep :
    (∀ s ∈ [{ idle with sidx := 254, txbuf := [(254, 0xFD)] }],
      s.sidx.toNat ≤ 254 ∧ s.txByte s.sidx.toNat = some 0xFD) ∧
    (∀ s ∈ [{ idle with sidx := 254, txbuf := [(254, 0x00)] }],
      s.sidx.toNat = 254 ∧ s.txByte s.sidx.toNat = some 0x00) ∧
    (∀ s ∈ [{ idle with sidx := 253, txbuf := [(253, 0x00)] }],
      s.sidx.toNat < 254 ∧ s.txByte s.sidx.toNat = some 0x00) ∧
    idle.txByte idle.sidx.toNat = none := by decide

/-- The sentinel at index 0, at index 254 (T5), and nowhere in indices 0 to 254 (T6). -/
theorem test_witness_ScanFindsFirstSentinel :
    (∀ s ∈ [{ idle with state := phaseScan, txbuf := [(0, 0xFD)] }],
      s.state = phaseScan ∧ s.sidx = 0 ∧ s.txByte 0 = some 0xFD ∧
        ∀ k < 0, ∃ b, s.txByte k = some b ∧ b ≠ 0xFD) ∧
    (∀ s ∈ [{ idle with state := phaseScan, txbuf := sentinelAt 254 }],
      s.state = phaseScan ∧ s.sidx = 0 ∧ s.txByte 254 = some 0xFD ∧
        ∀ k < 254, ∃ b, s.txByte k = some b ∧ b ≠ 0xFD) ∧
    (∀ s ∈ [{ idle with state := phaseScan, txbuf := zeros 0 255 }],
      s.state = phaseScan ∧ s.sidx = 0 ∧ ∀ k ≤ 254, ∃ b, s.txByte k = some b ∧ b ≠ 0xFD) := by
  simp only [List.mem_cons, List.not_mem_nil, or_false, forall_eq]
  refine ⟨⟨by decide, by decide, by decide, fun k hk => absurd hk (Nat.not_lt_zero k)⟩,
    ⟨by decide, by decide, ?_, fun k hk => ⟨0, ?_, by decide⟩⟩,
    ⟨by decide, by decide, fun k hk => ⟨0, ?_, by decide⟩⟩⟩
  · exact (sentinelAt_get 254 254).trans (if_pos rfl)
  · exact (sentinelAt_get 254 k).trans ((if_neg (by omega)).trans (if_pos hk))
  · exact (zeros_get 0 255 k).trans (if_pos (by omega))

/-- The last byte and a middle byte of a frame, the transport ready and not. -/
theorem test_witness_TxsendStep :
    ∀ s ∈ [{ idle with txlen := 2, tidx := 1, txbuf := [(0, 0xFE), (1, 0xFD)] },
        { idle with txlen := 3, tidx := 1, txbuf := [(1, 0xFD)], inp := { Pins.quiet with txReady := true } }],
      s.tidx.toNat < s.txlen.toNat ∧ s.txByte s.tidx.toNat = some 0xFD := by decide

theorem test_witness_TxflushStep :
    ({ idle with inp := { Pins.quiet with txIdle := true } } : State).inp.txIdle = true ∧
      idle.inp.txIdle = false := by decide

theorem test_witness_DeadlineEndsReception : 200 ≤ ({ idle with elapsed := 200 } : State).elapsed.toNat := by
  decide

theorem test_witness_IdleReceiveStep :
    ({ idle with elapsed := 199 } : State).elapsed.toNat < 200 ∧ idle.inp.rxValid = false := by decide

/-- At the first and at the last position before the length. -/
theorem test_witness_HeaderByteStored :
    ∀ s ∈ [receiving 1 0 0 0 0xFD, receiving 1 4 0 0 0xFD],
      s.elapsed.toNat < 200 ∧ s.inp.rxValid = true ∧ s.inp.rxData = 0xFD ∧ (0xFD : Byte) ≠ 0xFE ∧
        s.hidx.toNat ≤ 4 ∧ s.dlen.toNat ≤ s.pcnt.toNat ∧ s.pcnt.toNat < s.maxPayload.toNat := by decide

theorem test_witness_LengthLatched :
    ∀ s ∈ [receiving 1 5 0 0 0xFD],
      s.elapsed.toNat < 200 ∧ s.inp.rxValid = true ∧ s.inp.rxData = 0xFD ∧ (0xFD : Byte) ≠ 0xFE ∧
        s.hidx.toNat = 5 ∧ s.dlen.toNat ≤ s.pcnt.toNat ∧ s.pcnt.toNat < s.maxPayload.toNat := by decide

/-- An early 0xFD of the payload (V3), and the last append below the ceiling. -/
theorem test_witness_PayloadByteCaptured :
    ∀ s ∈ [receiving 1 6 0 3 0xFD, receiving 1 20 14 253 0xFD],
      s.elapsed.toNat < 200 ∧ s.inp.rxValid = true ∧ s.inp.rxData = 0xFD ∧ (0xFD : Byte) ≠ 0xFE ∧
        6 ≤ s.hidx.toNat ∧ ¬ ((0xFD : Byte) = 0xFD ∧ s.dlen.toNat + 5 ≤ s.hidx.toNat) ∧
        s.pcnt.toNat < s.dlen.toNat ∧ s.pcnt.toNat + 1 < s.maxPayload.toNat := by decide

/-- V7. -/
theorem test_witness_CeilingEndsReception :
    ∀ s ∈ [receiving 1 21 15 253 0x11],
      s.elapsed.toNat < 200 ∧ s.inp.rxValid = true ∧ s.inp.rxData = 0x11 ∧ (0x11 : Byte) ≠ 0xFE ∧
        6 ≤ s.hidx.toNat ∧ ¬ ((0x11 : Byte) = 0xFD ∧ s.dlen.toNat + 5 ≤ s.hidx.toNat) ∧
        s.pcnt.toNat < s.dlen.toNat ∧ s.pcnt.toNat + 1 = s.maxPayload.toNat := by decide

/-- V5. -/
theorem test_witness_ExtraByteTolerated :
    ∀ s ∈ [receiving 1 7 1 1 0xBB],
      s.elapsed.toNat < 200 ∧ s.inp.rxValid = true ∧ s.inp.rxData = 0xBB ∧ (0xBB : Byte) ≠ 0xFE ∧
        (0xBB : Byte) ≠ 0xFD ∧ 6 ≤ s.hidx.toNat ∧ s.dlen.toNat ≤ s.pcnt.toNat ∧
        s.pcnt.toNat < s.maxPayload.toNat := by decide

/-- V8 (no length latched) and V9 (a stale length). -/
theorem test_witness_StartByteResynchronises :
    (∀ s ∈ [receiving 1 3 0 0 0xFE],
      s.elapsed.toNat < 200 ∧ s.inp.rxValid = true ∧ s.inp.rxData = 0xFE ∧ s.dlen = 0 ∧
        0 < s.maxPayload.toNat) ∧
    (∀ s ∈ [receiving 1 6 0 2 0xFE],
      s.elapsed.toNat < 200 ∧ s.inp.rxValid = true ∧ s.inp.rxData = 0xFE ∧ s.dlen ≠ 0 ∧
        1 < s.maxPayload.toNat) ∧
    (∀ s ∈ [{ receiving 1 6 0 2 0xFE with maxPayload := 1 }],
      s.elapsed.toNat < 200 ∧ s.inp.rxValid = true ∧ s.inp.rxData = 0xFE ∧ s.dlen ≠ 0 ∧
        s.maxPayload.toNat = 1) := by decide

/-- V17, V19, V18, V20 and V24: each class at its terminator. -/
theorem test_witness_TerminatorCompletesFrame :
    ∀ s ∈ [classifying 1 0x00 0x02 7 1 1 0xFD, classifying 1 0x07 0x03 6 0 0 0xFD,
        classifying 1 0x00 0x03 6 0 0 0xFD, classifying 2 0x07 0x00 6 0 0 0xFD,
        classifying 2 0x00 0x02 6 0 0 0xFD],
      s.elapsed.toNat < 200 ∧ s.inp.rxValid = true ∧ s.inp.rxData = 0xFD ∧ 6 ≤ s.hidx.toNat ∧
        s.dlen.toNat + 5 ≤ s.hidx.toNat ∧ s.dlen.toNat ≤ s.pcnt.toNat := by decide

/-- V4 and V14. -/
theorem test_witness_LastPayloadByteMayTerminate :
    ∀ s ∈ [classifying 1 0x01 0x05 7 1 2 0xFD, classifying 1 0x01 0x05 21 15 16 0xFD],
      s.elapsed.toNat < 200 ∧ s.inp.rxValid = true ∧ s.inp.rxData = 0xFD ∧ 6 ≤ s.hidx.toNat ∧
        s.hidx.toNat = s.dlen.toNat + 5 ∧ s.pcnt.toNat + 1 = s.dlen.toNat ∧
        s.dlen.toNat ≤ s.maxPayload.toNat ∧ s.op = 1 ∧ s.hdr.cmdType ≠ 0x07 ∧
        ¬ (s.hdr.cmdType = 0x00 ∧ s.hdr.cmdId = 0x02) := by decide

/-- Each clause: the deadline, no byte, a terminator (V1), the ceiling (V7), a byte that keeps reception going. -/
theorem test_witness_RxwaitStepInOrder :
    (∀ s ∈ [{ idle with elapsed := 200 }], s.pcnt.toNat < s.maxPayload.toNat ∧ 200 ≤ s.elapsed.toNat) ∧
    (∀ s ∈ [{ idle with elapsed := 199 }], s.pcnt.toNat < s.maxPayload.toNat ∧ s.elapsed.toNat < 200 ∧
      s.inp.rxValid = false) ∧
    (∀ s ∈ [receiving 1 6 0 0 0xFD, receiving 1 21 15 253 0x11, receiving 1 5 0 2 0x03],
      s.pcnt.toNat < s.maxPayload.toNat ∧ s.elapsed.toNat < 200 ∧ s.inp.rxValid = true) := by decide

theorem test_witness_PostdrainStep :
    ({ idle with state := 6, inp := byteIn 0xFD } : State).inp.rxValid = true ∧
      ({ idle with state := 6 } : State).inp.rxValid = false := by decide

theorem test_witness_CompletionRunsDecodedClass :
    ∀ s ∈ [classifying 2 0x07 0x06 6 0 0 0xFD],
      s.elapsed.toNat < 200 ∧ s.inp.rxValid = true ∧ s.inp.rxData = 0xFD ∧ 6 ≤ s.hidx.toNat ∧
        s.dlen.toNat + 5 ≤ s.hidx.toNat ∧ s.dlen.toNat ≤ s.pcnt.toNat ∧
        decode (.frameClass s.op) [s.hdr.cmdId, s.hdr.cmdType] = .ok (.rxclassPollNotify 0x06) := by decide

/-- Two buffered bytes, in both drains (T1, D3). -/
theorem test_witness_DrainTakesEveryBufferedByte :
    ∀ c ∈ [phasePredrain, phasePostdrain],
      ∀ s ∈ [{ idle with state := c, schedule := [byteIn 0x55, byteIn 0x56] ++ Pins.quiet :: [] }],
        Undisturbed ([byteIn 0x55, byteIn 0x56] ++ [Pins.quiet]) ∧
          (∀ p ∈ [byteIn 0x55, byteIn 0x56], p.rxValid = true) ∧ Pins.quiet.rxValid = false ∧
          contractHolds s s.nextPins = true ∧ (s.state = phasePredrain ∨ s.state = phasePostdrain) := by
  unfold Undisturbed
  decide

/-- TO1: 200 strobes in 200 steps. -/
theorem test_witness_DeadlineCountsStrobes :
    Undisturbed (List.replicate 200 tickIn ++ [Pins.quiet]) ∧
      receivedBytes (List.replicate 200 tickIn) = [] ∧
      strobes (List.replicate 200 tickIn).dropLast < 200 ∧ strobes (List.replicate 200 tickIn) = 200 ∧
      (∀ s ∈ [{ idle with
          state := phaseRxwait, schedule := List.replicate 200 tickIn ++ Pins.quiet :: [] }],
        s.state = phaseRxwait ∧ s.elapsed = 0 ∧ contractHolds s s.nextPins = true) := by
  refine ⟨?_, ?_, ?_, ?_, ?_⟩
  · intro p hp
    simp only [List.mem_append, List.mem_replicate, List.mem_singleton] at hp
    rcases hp with ⟨-, rfl⟩ | rfl <;> exact ⟨rfl, rfl⟩
  · rw [receivedBytes, List.filterMap_replicate_of_none rfl]
  · rw [List.dropLast_replicate, strobes, List.countP_replicate]
    decide
  · rw [strobes, List.countP_replicate]
    decide
  · simp only [List.mem_cons, List.not_mem_nil, or_false, forall_eq]
    exact ⟨by decide, by decide, by decide⟩

/-- V1 with an idle step, and V2. -/
theorem test_witness_CleanFrameReceivedExactly :
    ∀ c ∈ [([byteIn 0xFE, byteIn 0x01, tickIn, byteIn 0x02, byteIn 0, byteIn 0, byteIn 0], []),
        ([byteIn 0xFE, byteIn 0x01, byteIn 0x02, byteIn 0, byteIn 0, byteIn 1, byteIn 0x10], [0x10])],
      ∀ s ∈ [{ idle with state := phaseRxwait, schedule := c.1 ++ byteIn 0xFD :: [] }],
        s.state = phaseRxwait ∧ s.hidx = 0 ∧ s.pcnt = 0 ∧ s.dlen = 0 ∧
          Undisturbed (c.1 ++ [byteIn 0xFD]) ∧ contractHolds s s.nextPins = true ∧
          c.2.length + 1 ≤ s.maxPayload.toNat ∧ c.2.length ≤ 65529 ∧
          receivedBytes (c.1 ++ [byteIn 0xFD]) =
            [startByte, 0x01, 0x02, 0x00, BitVec.ofNat 8 (c.2.length / 256),
              BitVec.ofNat 8 c.2.length] ++ c.2 ++ [endByte] ∧
          (byteIn 0xFD).rxValid = true ∧
          (∀ b ∈ [0x01, 0x02, 0x00, BitVec.ofNat 8 (c.2.length / 256), BitVec.ofNat 8 c.2.length] ++ c.2,
            b ≠ startByte) ∧
          c.2.getLast? ≠ some endByte ∧ s.elapsed.toNat + strobes c.1 < 200 := by
  unfold Undisturbed
  decide

/-- The reset state with a parameter has the invariants. -/
theorem test_idle_invariants : idle.Inv := by
  constructor <;> (try intros) <;>
    simp_all [idle, State.launch, State.reset, State.txByte, State.rxByte, Memory.wf]

/-- An accepted EXECUTE whose frame is the sentinel alone (T3). -/
def launched : State :=
  { idle with
    state := phasePredrain, op := opExecute, txbuf := [(0, 0xFD)]
    schedule := List.replicate 3 { Pins.quiet with txReady := true } }

theorem test_launched_invariants : launched.Inv := by
  constructor <;> (try intros) <;>
    simp_all [launched, idle, State.launch, State.reset, State.txByte, State.rxByte, Memory.wf, Memory.get,
      Memory.unlisted]
  omega

/-- Run to TXFLUSH. -/
theorem test_witness_ExecuteTransmitsItsFrame :
    launched.Inv ∧ launched.state = phasePredrain ∧ launched.commandFrame = some [0xFD] ∧
      ∃ t, Sys2Proof.core.run 3 launched = .next t ∧
        (∀ m ≤ 3, ∀ u, Sys2Proof.core.run m launched = .next u → u.state ≠ phaseIdle) ∧
        t.state = phaseTxflush ∧ t.sent = [0xFD] := by
  refine ⟨test_launched_invariants, rfl, by decide, landing 3 launched, rfl, ?_, by decide, by decide⟩
  intro m hm u hu
  have h : u = landing m launched := by rw [landing, hu]
  rw [h]
  clear hu h u
  revert m
  decide

theorem test_witness_StepKeepsInvariants :
    launched.Inv ∧ ∃ t, step launched = .next t ∧ t.state = phaseScan :=
  ⟨test_launched_invariants, _, rfl, by decide⟩

theorem test_witness_StepKeepsMemoryForm :
    Memory.wf launched.txbuf ∧ Memory.wf launched.rxbuf ∧ ∃ t, step launched = .next t :=
  ⟨by decide, by decide, _, rfl⟩

theorem test_witness_InvariantsExcludeFaults : idle.Inv ∧ launched.Inv :=
  ⟨test_idle_invariants, test_launched_invariants⟩

theorem test_witness_IdleStateIsStable :
    ∃ s t : State, s.state = phaseIdle ∧ s.nextPins.rst = false ∧
      ¬ (s.nextPins.busEn = true ∧ s.nextPins.busWe = true ∧ s.nextPins.busAddr = 0) ∧
      step s = .next t ∧ t.txByte 0 = some 0xFE :=
  ⟨{ idle with schedule := [writeIn 0x00100 0xFE] }, _, rfl, by decide, by decide, rfl, by decide⟩

theorem test_witness_OnlyCommandsStartTransactions :
    ∃ s t : State, s.nextPins.rst = false ∧ step s = .next t ∧ t.op ≠ s.op ∧ s.state = phaseIdle ∧
      t.state ≠ phaseIdle :=
  ⟨{ idle with schedule := [writeIn 0 0x02] }, _, by decide, rfl, by decide, rfl, by decide⟩

theorem test_witness_BusyStepsKeepCommandBuffer :
    ∃ s t : State, s.state ≠ phaseIdle ∧ s.nextPins.rst = false ∧ step s = .next t ∧
      s.nextPins.busAddr = 0x00100 :=
  ⟨{ idle with state := 4, schedule := [writeIn 0x00100 0xFE] }, _, by decide, by decide, rfl, by decide⟩

/-- A payload byte is appended in RXWAIT. -/
theorem test_witness_OnlyReceptionWritesPayload :
    ∃ s t : State, s.nextPins.rst = false ∧ step s = .next t ∧ s.state = phaseRxwait ∧
      t.rxByte 0 = some 0xAA :=
  ⟨{ receiving 1 6 0 2 0xAA with inp := Pins.quiet, schedule := [byteIn 0xAA] }, _, by decide, rfl, rfl,
    by decide⟩

theorem test_witness_PortsDrivenOnlyByRule :
    (∃ t, step { idle with
        state := 3, txlen := 1, txbuf := [(0, 0xFD)], schedule := [{ Pins.quiet with txReady := true }] } =
        .next t ∧ t.out.txPush ≠ none) ∧
    (∃ t, step { idle with state := 6, schedule := [byteIn 0xFD] } = .next t ∧ t.out.rxPop = true) :=
  ⟨⟨_, rfl, by decide⟩, ⟨_, rfl, by decide⟩⟩

/-- A reception in progress, one step before its end, with no payload byte captured yet. -/
def ending (maxPayload : Half) (op : BitVec 2) (ty id : Byte) (hidx dlen elapsed : Half) (p : Pins) : State :=
  { classifying op ty id hidx 0 dlen 0 with
    maxPayload := maxPayload, inp := Pins.quiet, elapsed := elapsed, schedule := [p] }

theorem test_ending_invariants :
    (ending 16 1 0x01 0x02 6 0 0 (byteIn 0xFD)).Inv ∧ (ending 16 1 0x00 0x02 6 0 0 (byteIn 0xFD)).Inv ∧
      (ending 1 2 0x01 0x01 6 253 0 (byteIn 0x11)).Inv ∧ (ending 16 2 0x00 0x00 0 0 200 Pins.quiet).Inv := by
  refine ⟨?_, ?_, ?_, ?_⟩ <;> constructor <;> (try intros) <;>
    simp_all [ending, classifying, receiving, idle, State.launch, State.reset, State.txByte, State.rxByte,
      Memory.wf]

/-- Each row of the cause table is reached: completion (V1), NACK (P3), the ceiling with `MAX_PAYLOAD = 1`, the
deadline (TO1). -/
theorem test_witness_ReceptionEndsAsTheTableSays :
    after (step (ending 16 1 0x01 0x02 6 0 0 (byteIn 0xFD))) (fun t => (t.state, t.cause)) = some (6, 0) ∧
    after (step (ending 16 1 0x00 0x02 6 0 0 (byteIn 0xFD))) (fun t => (t.state, t.cause)) = some (6, 2) ∧
    after (step (ending 1 2 0x01 0x01 6 253 0 (byteIn 0x11))) (fun t => (t.state, t.cause)) = some (6, 3) ∧
    after (step (ending 16 2 0x00 0x00 0 0 200 Pins.quiet)) (fun t => (t.state, t.cause)) = some (6, 1) := by
  decide

/-- The last POSTDRAIN step, and the SCAN step that ends BADCMD. -/
theorem test_witness_TransactionEndsWithDone :
    after (step { idle with state := 6, schedule := [Pins.quiet] }) (fun t => (t.state, t.done)) =
      some (0, true) ∧
    after (step { idle with state := 2, sidx := 254, txbuf := [(254, 0)], schedule := [Pins.quiet] })
      (fun t => (t.state, t.done, t.cause)) = some (0, true, 4) := by decide

/-- A result with one payload byte (CL2). -/
theorem test_witness_ReportedPayloadIsWritten :
    ∃ s : State, s.Inv ∧ 0 < s.plen.toNat ∧ s.rxByte 0 = some 0x99 := by
  refine ⟨{ idle with
    op := opExecute, done := true, ok := true, notify := true, plen := 1, dlen := 1, pcnt := 1, hidx := 7
    rxbuf := [(0, 0x99)] }, ?_, by decide, by decide⟩
  constructor <;> (try intros) <;>
    simp_all [idle, State.launch, State.reset, State.txByte, State.rxByte, Memory.wf, Memory.get,
      Memory.unlisted]
  omega

/-- A run of a pause and a read, from a state with the invariants. -/
theorem test_witness_RunResultIsIdle :
    idle.Inv ∧ ∃ t, runProgram [.pause, .access 0x0000100] [Pins.quiet, Pins.quiet] idle = .next (some t) ∧
      t.out.rdata = some 0x00 :=
  ⟨test_idle_invariants, _, rfl, by decide⟩

end Sys2Proof.Tests
end

section
/-! The step in terms of the decoder on bytes: what a format's own word decodes to, and the rows that a step
runs (R10, R83). -/

namespace Sys2Proof

/-! ## Words as bytes -/

@[simp] theorem bytesOfNumber_length (n w : Nat) : (bytesOfNumber n w).length = n := by
  induction n generalizing w with
  | zero => rfl
  | succ n ih => simp [bytesOfNumber, ih]

/-- The bytes of a word that fits in them make the word again. -/
theorem numberOfBytes_bytesOfNumber {n w : Nat} (h : w < 256 ^ n) :
    numberOfBytes (bytesOfNumber n w) = w := by
  induction n generalizing w with
  | zero =>
    obtain rfl : w = 0 := by simpa using h
    rfl
  | succ n ih =>
    have hdiv : w / 256 < 256 ^ n := Nat.div_lt_of_lt_mul (by rwa [Nat.pow_succ'] at h)
    simp only [bytesOfNumber, numberOfBytes, ih hdiv, BitVec.toNat_ofNat]
    omega

/-- The bytes of a word of a format decode as the word. -/
theorem decode_bytesOfNumber {f : Format} {w : Nat} (h : w < 256 ^ f.byteCount) :
    decode f (bytesOfNumber f.byteCount w) = decodeNumber f w := by
  rw [decode, if_pos (bytesOfNumber_length ..), numberOfBytes_bytesOfNumber h]

/-- The bytes of a bus word decode to its row (R68). -/
theorem decode_busWord (w : BitVec 26) : decode .busWord (bytesOfNumber 4 w.toNat) = .ok (decodeBusWord w) := by
  have hw := w.isLt
  have h : decode .busWord (bytesOfNumber 4 w.toNat) = decodeNumber .busWord w.toNat :=
    decode_bytesOfNumber (f := .busWord) (by simp only [Format.byteCount]; omega)
  rw [h, decodeNumber, if_pos hw, BitVec.ofNat_toNat, BitVec.setWidth_eq]

/-- The byte of a sequencer code decodes to its row (R16). -/
theorem decode_phaseCode (c : BitVec 3) : decode .phaseCode [c.setWidth 8] = .ok (decodePhase c) := by
  have hc := c.isLt
  have hbyte : [c.setWidth 8] = bytesOfNumber 1 c.toNat := congrArg ([·]) (BitVec.ofNat_toNat ..).symm
  have h : decode .phaseCode (bytesOfNumber 1 c.toNat) = decodeNumber .phaseCode c.toNat :=
    decode_bytesOfNumber (f := .phaseCode) (by simp only [Format.byteCount]; omega)
  rw [hbyte, h, decodeNumber, if_pos hc, BitVec.ofNat_toNat, BitVec.setWidth_eq]

namespace Machine

/-! ## The rows of a step -/

/-- In IDLE the row of the phase adds nothing to what came before it (R82). -/
theorem andThen_stateIdle (r : Host.Outcome State Fault Refusal) : andThen r (exec .stateIdle) = r := by
  cases r <;> rfl

/-- A step without reset, contract breach or wide access is the host access and then the phase row (R83). -/
theorem step_eq_rows {s : State} (hr : s.nextPins.rst = false) (hc : contractHolds s s.nextPins = true)
    (hw : s.nextPins.busEn = true → s.nextPins.busWide = false) :
    step s = andThen (hostAccess s.nextPins (s.sample s.nextPins)) (exec (decodePhase s.state)) := by
  have hwide : (s.nextPins.busEn && s.nextPins.busWide) = false := by simpa using hw
  simp [step, hr, hc, hwide]

/-- Settles O5: bytes decode to the rows that the step runs, and the IDLE row does nothing. -/
theorem stepRunsDecodedRows : Obligations.StepRunsDecodedRows := by
  intro s i hr hc hw hi
  obtain rfl : decodePhase s.state = i := by simpa [decode_phaseCode] using hi
  rw [step_eq_rows hr hc hw]
  refine ⟨fun hen => ?_, fun h hen hh => ?_⟩
  · simp [hostAccess, hen]
  · obtain rfl : decodeBusWord (pinsBusWord s.nextPins) = h := by simpa [decode_busWord] using hh
    rw [hostAccess, if_pos hen]
    refine ⟨rfl, fun hidle => ?_⟩
    rw [hidle]
    exact andThen_stateIdle _

end Machine
end Sys2Proof
end

section
/-! The invariants of reachable states (R42): the reset state has them, and every step keeps them. One lemma
per operation and per phase says which invariants it touches and why they hold again. -/

namespace Sys2Proof.Machine

variable {s t : State}

/-! ## The reset state -/

/-- The built parameter is at least 1 (R7). -/
theorem builtMaxPayload_ne_zero : Config.maxPayload ≠ 0 := by
  have hlt := Config.maxPayloadPred.isLt
  intro h
  have h : (Config.maxPayloadPred.val + 1) % 2 ^ 16 = 0 := congrArg BitVec.toNat h
  omega

/-- The reset registers have the invariants, whatever the ports and the record of the environment hold:
beside the parameter, every register is 0 and both memories are empty. -/
theorem State.Inv.resetRegisters (hp : s.maxPayload ≠ 0) : s.resetRegisters.Inv := by
  constructor
  case parameter => exact hp
  all_goals simp [State.txByte, State.rxByte, Memory.wf]

/-- Settles O49: the reset state is the reset of itself, with the built parameter. -/
theorem resetHasInvariants : Obligations.ResetHasInvariants :=
  State.Inv.resetRegisters (s := State.reset) builtMaxPayload_ne_zero

/-! ## Ports and `CERR`: no invariant names them -/

theorem State.Inv.sample (h : s.Inv) (p : Pins) : (s.sample p).Inv := { h with }

theorem State.Inv.driveRdata (h : s.Inv) (b : Byte) : (s.driveRdata b).Inv := { h with }

theorem State.Inv.refuseWrite (h : s.Inv) : s.refuseWrite.Inv := { h with }

theorem State.Inv.pop (h : s.Inv) : s.pop.Inv := { h with }

theorem State.Inv.push (h : s.Inv) (b : Byte) : (s.push b).Inv := { h with }

theorem State.Inv.resetStep (h : s.Inv) (p : Pins) : (s.resetStep p).Inv := by
  have hr : (s.sample p).resetRegisters.Inv := .resetRegisters h.parameter
  unfold State.resetStep
  split
  · exact hr.driveRdata _
  · exact hr

/-! ## What the invariants say of a phase -/

theorem State.Inv.maxPayload_pos (h : s.Inv) : 0 < s.maxPayload.toNat := by
  have := h.parameter
  bv_omega

/-- No result of the transaction is published yet: the registers that ACCEPT cleared are still clear (R73). -/
structure State.Unpublished (s : State) : Prop where
  done : s.done = false
  ok : s.ok = false
  cause : s.cause = causeNone
  notify : s.notify = false
  event : s.event = 0
  plen : s.plen = 0

/-- A busy DPF publishes nothing before POSTDRAIN (R29, R33). -/
theorem State.Inv.unpublished (h : s.Inv) (hi : s.state ≠ phaseIdle) (hp : s.state ≠ phasePostdrain) :
    s.Unpublished := by
  have hok : ¬ s.ok = true := fun hok =>
    (h.okFlag hok).2.elim hp (fun ⟨hs, _⟩ => hi hs)
  exact {
    done := by simpa using mt h.doneFlag hi
    ok := by simpa using hok
    cause := by_contra fun hc => (h.causeFlag hc).elim hp hi
    notify := by simpa using mt h.notifyFlag hok
    event := by_contra fun he => hok (h.eventFlag he).2.1
    plen := by_contra fun hn => hok (h.payloadLength hn).1 }

/-- The phases of an EXECUTE before reception (R84 to R87). -/
def transmits (q : BitVec 3) : Prop :=
  q = phasePredrain ∨ q = phaseScan ∨ q = phaseTxsend ∨ q = phaseTxflush

/-- A transmit phase is none of the phases that a POLL also has. -/
theorem not_poll_phase_of_transmits {q : BitVec 3} (hq : transmits q) :
    q ≠ phaseIdle ∧ q ≠ phaseRxwait ∧ q ≠ phasePostdrain ∧ q ≠ 7 := by
  rcases hq with rfl | rfl | rfl | rfl <;> decide

theorem State.Inv.op_ne_poll_of_transmits (h : s.Inv) (hs : transmits s.state) : s.op ≠ opPoll := by
  intro hop
  obtain ⟨hi, hr, hp, -⟩ := not_poll_phase_of_transmits hs
  rcases (h.pollPhases hop).1 with hq | hq | hq
  · exact hi hq
  · exact hr hq
  · exact hp hq

theorem State.Inv.unpublished_of_transmits (h : s.Inv) (hs : transmits s.state) : s.Unpublished := by
  obtain ⟨hi, -, hp, -⟩ := not_poll_phase_of_transmits hs
  exact h.unpublished hi hp

/-! ## Changes of phase -/

/-- From one transmit phase to another, only the facts about the phase entered are to be shown. -/
theorem State.Inv.enterTransmit (h : s.Inv) (hs : transmits s.state) {q : BitVec 3} (hq : transmits q)
    (hscan : q = phaseScan →
      s.sidx.toNat < txScanLimit ∧ ∀ k < s.sidx.toNat, ∃ b, s.txByte k = some b ∧ b ≠ endByte)
    (hsend : q = phaseTxsend → s.tidx.toNat < s.txlen.toNat)
    (hframe : q = phaseTxsend ∨ q = phaseTxflush →
      1 ≤ s.txlen.toNat ∧ s.txByte (s.txlen.toNat - 1) = some endByte ∧
        ∀ k < s.txlen.toNat - 1, ∃ b, s.txByte k = some b ∧ b ≠ endByte) :
    { s with state := q }.Inv := by
  have hu := h.unpublished_of_transmits hs
  have hi := (not_poll_phase_of_transmits hs).1
  obtain ⟨-, hrx, -, h7⟩ := not_poll_phase_of_transmits hq
  exact { h with
    phase := h7
    busyOperation := fun _ => h.busyOperation hi
    pollPhases := fun hop => absurd hop (h.op_ne_poll_of_transmits hs)
    countersClear := fun _ => h.countersClear hs
    scanIndex := hscan
    sendIndex := hsend
    frame := hframe
    belowCeiling := fun hq => absurd hq hrx
    captured := fun hq => absurd hq hrx
    okFlag := by simp [hu.ok]
    doneFlag := by simp [hu.done]
    causeFlag := by simp [hu.cause] }

/-- RXWAIT is entered, or gone on with, below the ceiling and with every payload byte so far captured. -/
theorem State.Inv.enterRxwait (h : s.Inv) (hi : s.state ≠ phaseIdle) (hu : s.Unpublished)
    (hbelow : s.pcnt.toNat < s.maxPayload.toNat)
    (hcapt : 6 ≤ s.hidx.toNat → min s.dlen.toNat (s.hidx.toNat - 6) ≤ s.pcnt.toNat) :
    { s with state := phaseRxwait }.Inv :=
  { h with
    phase := by simp
    busyOperation := fun _ => h.busyOperation hi
    pollPhases := fun hp => ⟨by simp, (h.pollPhases hp).2⟩
    countersClear := by simp
    scanIndex := by simp
    sendIndex := by simp
    frame := by simp
    belowCeiling := fun _ => hbelow
    captured := fun _ => hcapt
    okFlag := by simp [hu.ok]
    doneFlag := by simp [hu.done]
    causeFlag := by simp [hu.cause] }

/-- POSTDRAIN asks nothing of the counters that the other phases do not. -/
theorem State.Inv.enterPostdrain (h : s.Inv) (hi : s.state ≠ phaseIdle) :
    { s with state := phasePostdrain }.Inv :=
  { h with
    phase := by simp
    busyOperation := fun _ => h.busyOperation hi
    pollPhases := fun hp => ⟨by simp, (h.pollPhases hp).2⟩
    countersClear := by simp
    scanIndex := by simp
    sendIndex := by simp
    frame := by simp
    belowCeiling := by simp
    captured := by simp
    okFlag := fun ho => ⟨(h.okFlag ho).1, .inl rfl⟩
    doneFlag := fun hd => absurd (h.doneFlag hd) hi
    causeFlag := by simp }

/-- A transaction ends in IDLE with `DONE` set (R29). -/
theorem State.Inv.endTransaction (h : s.Inv) : { s with done := true, state := phaseIdle }.Inv :=
  { h with
    phase := by simp
    busyOperation := by simp
    pollPhases := fun hp => ⟨.inl rfl, (h.pollPhases hp).2⟩
    countersClear := by simp
    scanIndex := by simp
    sendIndex := by simp
    frame := by simp
    belowCeiling := by simp
    captured := by simp
    okFlag := fun ho => ⟨(h.okFlag ho).1, .inr ⟨rfl, rfl⟩⟩
    doneFlag := by simp
    causeFlag := by simp }

/-! ## Publication of a result -/

/-- A failure reports no payload and no event (R118). -/
theorem State.Inv.publishFailure (h : s.Inv) (hs : s.state = phasePostdrain ∨ s.state = phaseIdle)
    (he : s.event = 0) {c : BitVec 3} (hc : c.toNat ≤ 4) : (s.publish c false 0 false).Inv :=
  { h with
    causeCode := hc
    okFlag := by simp
    causeFlag := fun _ => hs
    notifyFlag := by simp
    eventFlag := by simp [he]
    payloadLength := by simp }

/-- A success reports `DLEN` captured bytes, and an event only for a notification under POLL (R109 to
R111). -/
theorem State.Inv.publishSuccess (h : s.Inv) (hs : s.state = phasePostdrain)
    (hlen : s.dlen.toNat ≤ s.pcnt.toNat) {f : Bool} {e : Byte} (he : e ≠ 0 → s.op = opPoll ∧ f = true) :
    { s.publish causeNone true s.dlen f with event := e }.Inv :=
  { h with
    causeCode := by simp
    okFlag := fun _ => ⟨rfl, .inl hs⟩
    causeFlag := by simp
    notifyFlag := by simp
    eventFlag := fun hne => ⟨(he hne).1, rfl, (he hne).2⟩
    payloadLength := fun _ => ⟨rfl, rfl, hlen.trans h.ceiling, hlen⟩ }

/-- `EVENT` is written only for a notification under POLL (R69, R111). -/
theorem frameClass_eq_pollNotify {op : BitVec 2} {cmdType id e : Byte}
    (h : frameClass op cmdType id = some (.pollNotify e)) : op = opPoll := by
  unfold frameClass at h
  split_ifs at h <;> simp_all

/-- Under an operation of R19 every frame has a class (R69). -/
theorem frameClass_ne_none {op : BitVec 2} (hop : op = opExecute ∨ op = opPoll) (cmdType id : Byte) :
    frameClass op cmdType id ≠ none := by
  unfold frameClass
  split_ifs <;> simp_all

/-- A completed frame is the NACK failure, or a success with an event only for a notification under POLL
(R107 to R111). -/
theorem finishRx_complete_cases (hop : s.op = opExecute ∨ s.op = opPoll) (he : s.event = 0) :
    finishRx .complete s = .next ({ s with state := phasePostdrain }.publish causeNack false 0 false) ∨
    ∃ (f : Bool) (e : Byte), (e ≠ 0 → s.op = opPoll ∧ f = true) ∧
      finishRx .complete s =
        .next { { s with state := phasePostdrain }.publish causeNone true s.dlen f with event := e } := by
  unfold finishRx classify
  simp only
  split
  next => exact .inl rfl
  next => exact .inr ⟨true, s.event, absurd he, rfl⟩
  next => exact .inr ⟨false, s.event, absurd he, rfl⟩
  next hc => exact .inr ⟨true, _, fun _ => ⟨frameClass_eq_pollNotify hc, rfl⟩, rfl⟩
  next => exact .inr ⟨false, 0, absurd rfl, rfl⟩
  next hc => exact absurd hc (frameClass_ne_none hop _ _)

/-! ## The host access -/

/-- ACCEPT clears every register that an invariant names, and keeps both memories (R73). -/
theorem State.Inv.accept (h : s.Inv) {op : BitVec 2} (hop : op = opExecute ∨ op = opPoll) :
    (s.accept op).Inv := by
  have hmax := h.maxPayload_pos
  constructor
  case parameter => exact h.parameter
  case txbufSized => exact h.txbufSized
  case rxbufSized => exact h.rxbufSized
  case txbufForm => exact h.txbufForm
  case rxbufForm => exact h.rxbufForm
  all_goals rcases hop with rfl | rfl <;> simp [hmax]

/-- A command byte written in IDLE lies inside `TXBUF`, and no invariant looks at its value in IDLE (R79). -/
theorem State.Inv.writeCommandByte (h : s.Inv) (hs : s.state = phaseIdle) {k : Nat} (hk : k < txbufSize)
    (b : Byte) : { s with txbuf := s.txbuf.set k b }.Inv :=
  { h with
    scanIndex := by simp [hs]
    frame := by simp [hs]
    txbufSized := fun j hj => (Memory.get_set_of_ne _ _ (by omega)).trans (h.txbufSized j hj)
    txbufForm := Memory.set_wf _ _ h.txbufForm }

/-- The host access of a step keeps the invariants, and `STATE` unless it is IDLE (R77, R83). -/
theorem State.Inv.hostAccess {p : Pins} (h : s.Inv) (ht : hostAccess p s = .next t) :
    t.Inv ∧ (s.state = phaseIdle ∨ t.state = s.state) := by
  unfold Machine.hostAccess at ht
  split at ht
  · obtain ⟨u, hu, hcases⟩ := busWord_cases (pinsBusWord p) s
    obtain rfl : u = t := by simpa [hu] using ht
    rcases hcases with ⟨b, rfl⟩ | ⟨hs, rfl⟩ | ⟨hs, rfl⟩ | rfl | ⟨hs, k, b, hk, rfl⟩ | rfl
    · exact ⟨h.driveRdata b, .inr rfl⟩
    · exact ⟨h.accept (.inl rfl), .inl hs⟩
    · exact ⟨h.accept (.inr rfl), .inl hs⟩
    · exact ⟨h.refuseWrite, .inr rfl⟩
    · exact ⟨h.writeCommandByte hs hk b, .inl hs⟩
    · exact ⟨h, .inr rfl⟩
  · obtain rfl : s = t := by simpa using ht
    exact ⟨h, .inr rfl⟩

/-! ## The transmit phases -/

/-- Counting up below a bound that the register holds does not wrap (R11). -/
theorem toNat_succ_of_lt {w n : Nat} {v : BitVec w} (h : v.toNat < n) (hn : n < 2 ^ w) :
    (v + 1).toNat = v.toNat + 1 := by
  have hw : 0 < w := Nat.pos_of_ne_zero fun hw => by simp [hw] at hn; omega
  have h1 : (1 : BitVec w).toNat = 1 := BitVec.toNat_one hw
  rw [BitVec.toNat_add_of_lt (by omega), h1]

theorem execStatePredrain_keeps_inv (h : s.Inv) (hs : s.state = phasePredrain)
    (ht : execStatePredrain s = .next t) : t.Inv := by
  unfold execStatePredrain at ht
  split at ht <;> cases ht
  · exact h.pop
  · have h0 : { s with sidx := 0 }.Inv := { h with scanIndex := by simp [hs] }
    exact h0.enterTransmit (.inl hs) (.inr (.inl rfl)) (by simp) (by simp) (by simp)

/-- A scan that finds no sentinel publishes its failure and ends the transaction in one step (R85, R114). -/
theorem State.Inv.badCommand (h : s.Inv) (hs : s.state = phaseScan) : s.badCommand.Inv := by
  have hu := h.unpublished_of_transmits (.inr (.inl hs))
  exact h.endTransaction.publishFailure (.inr rfl) hu.event (c := causeBadcmd) (by decide)

/-- The byte where the scan stops is the first 0xFD, so it ends the frame to transmit (R85, R88). -/
theorem State.Inv.scanFound (h : s.Inv) (hs : s.state = phaseScan)
    (hb : s.txByte s.sidx.toNat = some endByte) :
    { s with txlen := s.sidx + 1, tidx := 0, state := phaseTxsend }.Inv := by
  have htx : transmits s.state := .inr (.inl hs)
  obtain ⟨hlt, hpassed⟩ := h.scanIndex hs
  have hsucc : (s.sidx + 1).toNat = s.sidx.toNat + 1 := toNat_succ_of_lt hlt (by decide)
  have h0 : { s with txlen := s.sidx + 1, tidx := 0 }.Inv :=
    { h with
      pollPhases := fun hp => absurd hp (h.op_ne_poll_of_transmits htx)
      sendIndex := by simp [hs]
      frame := by simp [hs] }
  refine h0.enterTransmit htx (.inr (.inr (.inl rfl))) (by simp) (fun _ => ?_) (fun _ => ?_)
  · exact hsucc ▸ Nat.succ_pos _
  · simp only [hsucc, Nat.add_sub_cancel]
    exact ⟨by omega, hb, hpassed⟩

/-- The scan goes on past a byte that is no 0xFD (R85). -/
theorem State.Inv.scanPassed (h : s.Inv) (hs : s.state = phaseScan) {b : Byte}
    (hb : s.txByte s.sidx.toNat = some b) (hne : b ≠ endByte) (hlast : s.sidx.toNat ≠ txScanLimit - 1) :
    { s with sidx := s.sidx + 1 }.Inv := by
  obtain ⟨hlt, hpassed⟩ := h.scanIndex hs
  have hsucc : (s.sidx + 1).toNat = s.sidx.toNat + 1 := toNat_succ_of_lt hlt (by decide)
  refine { h with scanIndex := fun _ => ⟨?_, fun k hk => ?_⟩ }
  · simp only [hsucc]
    omega
  · simp only [hsucc] at hk
    rcases Nat.lt_succ_iff_lt_or_eq.1 hk with hk | rfl
    · exact hpassed k hk
    · exact ⟨b, hb, hne⟩

theorem execStateScan_keeps_inv (h : s.Inv) (hs : s.state = phaseScan)
    (ht : execStateScan s = .next t) : t.Inv := by
  unfold execStateScan at ht
  split at ht
  next => cases ht
  next b hb =>
    split at ht
    next hend =>
      cases ht
      exact h.scanFound hs (hb.trans (congrArg some hend))
    next hne =>
      split at ht <;> cases ht
      next => exact h.badCommand hs
      next hlast => exact h.scanPassed hs hb hne hlast

theorem execStateTxsend_keeps_inv (h : s.Inv) (hs : s.state = phaseTxsend)
    (ht : execStateTxsend s = .next t) : t.Inv := by
  have hlt := h.sendIndex hs
  have hsucc : (s.tidx + 1).toNat = s.tidx.toNat + 1 := toNat_succ_of_lt hlt s.txlen.isLt
  unfold execStateTxsend at ht
  split at ht <;> cases ht
  · have hpush := h.push ((s.txByte s.tidx.toNat).getD (Config.anyPush s.cycle))
    split
    next hlast =>
      have hflush := hpush.enterTransmit (.inr (.inr (.inl hs))) (q := phaseTxflush)
        (.inr (.inr (.inr rfl))) (by simp) (by simp) (fun _ => h.frame (.inl hs))
      exact { hflush with sendIndex := by simp }
    next hmore =>
      refine { hpush with sendIndex := fun _ => ?_ }
      simp only [hsucc, State.push_txlen]
      omega
  · exact h

theorem execStateTxflush_keeps_inv (h : s.Inv) (hs : s.state = phaseTxflush)
    (ht : execStateTxflush s = .next t) : t.Inv := by
  have htx : transmits s.state := .inr (.inr (.inr hs))
  obtain ⟨hhidx, hpcnt, -, -⟩ := h.countersClear htx
  unfold execStateTxflush at ht
  split at ht <;> cases ht
  · exact h.enterRxwait (by simp [hs]) (h.unpublished_of_transmits htx)
      (by simpa [hpcnt] using h.maxPayload_pos) (by simp [hhidx])
  · exact h

/-! ## The receive phase -/

/-- A strobe before the deadline counts up to it at most (R90, R91). -/
theorem State.Inv.tick (h : s.Inv) (hs : ¬ transmits s.state) (he : s.elapsed.toNat < timeoutMs) :
    s.tick.Inv := by
  unfold State.tick
  split
  · refine { h with
      countersClear := fun hq => absurd hq hs
      deadline := ?_ }
    simp only [sat16Succ_toNat]
    omega
  · exact h

/-- Resynchronisation restarts both counters, and so forgets the bytes captured so far (R94). -/
theorem State.Inv.resync (h : s.Inv) (hs : s.state = phaseRxwait) (b : Byte) : (s.resync b).Inv := by
  have hu := h.unpublished (by simp [hs]) (by simp [hs])
  unfold State.resync
  split
  · exact { h with
      countersClear := by simp [hs]
      belowCeiling := fun _ => h.maxPayload_pos
      ceiling := Nat.zero_le _
      captured := by simp
      payloadLength := by simp [hu.plen]
      payloadWritten := by simp }
  · exact h

/-- An append inside `RXBUF` gives the next payload byte its value (R95). -/
theorem State.Inv.append (h : s.Inv) (hs : s.state = phasePostdrain) (hplen : s.plen = 0)
    (hmax : s.pcnt.toNat < s.maxPayload.toNat) (b : Byte) :
    { s with rxbuf := s.rxbuf.set s.pcnt.toNat b, pcnt := s.pcnt + 1 }.Inv := by
  have hsucc : (s.pcnt + 1).toNat = s.pcnt.toNat + 1 := toNat_succ_of_lt hmax s.maxPayload.isLt
  refine { h with
    countersClear := by simp [hs]
    belowCeiling := by simp [hs]
    ceiling := hsucc ▸ hmax
    captured := by simp [hs]
    payloadLength := by simp [hplen]
    payloadWritten := fun k hk => ?_
    rxbufSized := fun k hk => (Memory.get_set_of_ne _ _ (by simp only at hk; omega)).trans (h.rxbufSized k hk)
    rxbufForm := Memory.set_wf _ _ h.rxbufForm }
  simp only [hsucc] at hk
  rcases Nat.lt_succ_iff_lt_or_eq.1 hk with hk | rfl
  · exact (congrArg Option.isSome (Memory.get_set_of_ne _ b hk.ne)).trans (h.payloadWritten k hk)
  · exact congrArg Option.isSome (Memory.get_set_same _ _ b)

/-- The state between the capture of a byte and its terminator test (R97, R98): what POSTDRAIN asks holds, and
past the header every byte so far, this one included, was appended while `PCNT < DLEN` (R103). -/
structure State.ByteCaptured (s : State) : Prop where
  receiving : s.state = phaseRxwait
  beforeDeadline : s.elapsed.toNat < timeoutMs
  unpublished : s.Unpublished
  inv : { s with state := phasePostdrain }.Inv
  captured : 5 ≤ s.hidx.toNat → min s.dlen.toNat (s.hidx.toNat - 5) ≤ s.pcnt.toNat

/-- Payload capture in RXWAIT keeps to the ceiling, and keeps up with the bytes past the header (R95, R103). -/
theorem State.Inv.capturePayload (h : s.Inv) (hs : s.state = phaseRxwait)
    (he : s.elapsed.toNat < timeoutMs) {b : Byte} (ht : s.capturePayload b = some t) : t.ByteCaptured := by
  have hu := h.unpublished (by simp [hs]) (by simp [hs])
  have hpost := h.enterPostdrain (by simp [hs])
  have hcapt := h.captured hs
  rcases State.capturePayload_cases ht with ⟨hlt, hmax, rfl⟩ | ⟨hle, rfl⟩
  · have hsucc : (s.pcnt + 1).toNat = s.pcnt.toNat + 1 := toNat_succ_of_lt hmax s.maxPayload.isLt
    refine ⟨hs, he, { hu with }, hpost.append rfl hu.plen hmax b, fun _ => ?_⟩
    simp only [hsucc]
    omega
  · exact ⟨hs, he, hu, hpost, fun _ => (min_le_left ..).trans hle⟩

theorem State.ByteCaptured.captureHeader (h : s.ByteCaptured) (b : Byte) :
    (s.captureHeader b).ByteCaptured := by
  rw [State.captureHeader_eq]
  exact { h with
    unpublished := { h.unpublished with }
    inv := { h.inv with } }

/-- The length is latched at the last header position, where no byte past the header was due (R97). -/
theorem State.ByteCaptured.latchLength (h : s.ByteCaptured) : s.latchLength.ByteCaptured := by
  unfold State.latchLength
  split
  next h5 =>
    exact { h with
      unpublished := { h.unpublished with }
      inv := { h.inv with
        countersClear := by simp
        captured := by simp
        payloadLength := by simp [h.unpublished.plen] }
      captured := by simp [h5] }
  next => exact h

/-- The end of a byte's processing: where the frame completes, `PCNT` has reached `DLEN` (R103); where
reception goes on, `PCNT` is below the ceiling and one position further is captured (R98 to R100). -/
theorem State.ByteCaptured.closeByte (h : s.ByteCaptured) {b : Byte} (ht : closeByte b s = .next t) :
    t.Inv := by
  have hu := h.unpublished
  have hop : s.op = opExecute ∨ s.op = opPoll := h.inv.busyOperation (by simp)
  have hcapt := h.captured
  have hidx : { s with state := phasePostdrain, hidx := sat16Succ s.hidx }.Inv :=
    { h.inv with countersClear := by simp, captured := by simp }
  rcases closeByte_cases b s with ⟨hend, -, hc⟩ | ⟨-, -, hc⟩ | ⟨-, hbelow, hc⟩ <;> rw [hc] at ht
  · rcases finishRx_complete_cases hop hu.event with hf | ⟨f, e, he, hf⟩ <;> rw [hf] at ht <;> cases ht
    · exact h.inv.publishFailure (.inl rfl) hu.event (by decide)
    · exact h.inv.publishSuccess rfl (by simp only; omega) he
  · cases ht
    exact hidx.publishFailure (.inl rfl) hu.event (by decide)
  · cases ht
    have hnext : { s with state := phaseRxwait, hidx := sat16Succ s.hidx }.Inv :=
      hidx.enterRxwait (by simp) { hu with } hbelow (by simp only [sat16Succ_toNat]; omega)
    rw [← h.receiving] at hnext
    exact hnext.tick (by simp [transmits, h.receiving]) h.beforeDeadline

theorem execStateRxwait_keeps_inv (h : s.Inv) (hs : s.state = phaseRxwait)
    (ht : execStateRxwait s = .next t) : t.Inv := by
  have hu := h.unpublished (by simp [hs]) (by simp [hs])
  have hpost := h.enterPostdrain (by simp [hs])
  unfold execStateRxwait at ht
  split at ht
  next =>
    cases ht
    exact hpost.publishFailure (.inl rfl) hu.event (by decide)
  next he =>
    have he : s.elapsed.toNat < timeoutMs := by omega
    split at ht
    next =>
      unfold processByte at ht
      split at ht
      next => cases ht
      next v hv =>
        have hsync := h.pop.resync hs s.inp.rxData
        have hcapt := hsync.capturePayload (by simpa [State.resync_eq] using hs)
          (by simpa [State.resync_eq] using he) hv
        exact (hcapt.captureHeader _).latchLength.closeByte ht
    next =>
      cases ht
      exact h.tick (by simp [transmits, hs]) he

theorem execStatePostdrain_keeps_inv (h : s.Inv) (ht : execStatePostdrain s = .next t) : t.Inv := by
  unfold execStatePostdrain at ht
  split at ht <;> cases ht
  · exact h.pop
  · exact h.endTransaction

/-! ## The step -/

/-- The row of the phase in `STATE` keeps the invariants (R82 to R101). -/
theorem phaseRow_keeps_inv (h : s.Inv) (ht : exec (decodePhase s.state) s = .next t) : t.Inv := by
  unfold decodePhase at ht
  split_ifs at ht with h0 h1 h2 h3 h4 h5 h6
  · cases ht
    exact h
  · exact execStatePredrain_keeps_inv h h1 ht
  · exact execStateScan_keeps_inv h h2 ht
  · exact execStateTxsend_keeps_inv h h3 ht
  · exact execStateTxflush_keeps_inv h h4 ht
  · exact execStateRxwait_keeps_inv h h5 ht
  · exact execStatePostdrain_keeps_inv h ht
  · cases ht

/-- Settles O48: a reset, or the host access and then the row of the phase, each of which keeps the
invariants. A host access that changes `STATE` comes in IDLE, whose row does nothing (R82). -/
theorem stepKeepsInvariants : Obligations.StepKeepsInvariants := by
  intro s t h ht
  rcases step_cases ht with ⟨-, rfl⟩ | ⟨-, -, -, u, hu, ht⟩
  · exact h.resetStep _
  · obtain ⟨hinv, hidle | hstate⟩ := (h.sample _).hostAccess hu
    · obtain rfl : u = t := by
        rw [show s.state = phaseIdle from hidle] at ht
        simpa [decodePhase, exec, execStateIdle] using ht
      exact hinv
    · rw [← show u.state = s.state from hstate] at ht
      exact phaseRow_keeps_inv hinv ht

end Sys2Proof.Machine
end

section
/-! The encodings round trip: the fields of a bus word, the words of each format inside their bytes, and the row
each word decodes to (R16, R67, R68, R69). -/

namespace Sys2Proof

/-! ## The fields of a bus word -/

@[simp] theorem busWordWe_makeBusWord (we : Bool) (addr : Addr) (data : Byte) :
    busWordWe (makeBusWord we addr data) = we := by
  have := addr.isLt
  have := data.isLt
  rw [busWordWe, Laws.makeBusWord_toNat]
  cases we <;> simp only [Bool.toNat_true, Bool.toNat_false, decide_eq_true_eq, decide_eq_false_iff_not] <;> omega

@[simp] theorem busWordAddr_makeBusWord (we : Bool) (addr : Addr) (data : Byte) :
    busWordAddr (makeBusWord we addr data) = addr := by
  have := addr.isLt
  have := data.isLt
  apply BitVec.eq_of_toNat_eq
  rw [busWordAddr, Laws.makeBusWord_toNat, BitVec.toNat_ofNat]
  omega

@[simp] theorem busWordData_makeBusWord (we : Bool) (addr : Addr) (data : Byte) :
    busWordData (makeBusWord we addr data) = data := by
  have := data.isLt
  apply BitVec.eq_of_toNat_eq
  rw [busWordData, Laws.makeBusWord_toNat, BitVec.toNat_ofNat]
  omega

/-- The row that R68 gives an access, in terms of the access. -/
theorem decodeBusWord_makeBusWord (we : Bool) (addr : Addr) (data : Byte) :
    decodeBusWord (makeBusWord we addr data) =
      if we = false then .rd addr
      else if addr = 0 then
        if data = 0x01 then .wrCmdExecute else if data = 0x02 then .wrCmdPoll else .wrCmdRsvd data
      else if addr.toNat / 2 ^ 8 = 0x001 then .wrTxbuf (BitVec.ofNat 8 addr.toNat) data
      else .wrIgnored addr data := by
  simp only [decodeBusWord, busWordWe_makeBusWord, busWordAddr_makeBusWord, busWordData_makeBusWord]

/-! ## The decoder on an encoded word -/

theorem decodeNumber_makeBusWord (we : Bool) (addr : Addr) (data : Byte) :
    decodeNumber .busWord (makeBusWord we addr data).toNat =
      .ok (decodeBusWord (makeBusWord we addr data)) := by
  rw [decodeNumber, if_pos (BitVec.isLt _), BitVec.ofNat_toNat, BitVec.setWidth_eq]

theorem makeClassWord_lt (cmdType id : Byte) : makeClassWord cmdType id < 2 ^ 16 := by
  have := cmdType.isLt
  have := id.isLt
  simp only [makeClassWord]
  omega

/-- A class word is read back as the type and id it was made of (R69). -/
theorem decodeNumber_makeClassWord {op : BitVec 2} {cmdType id : Byte} {c : FrameClass}
    (hc : frameClass op cmdType id = some c) :
    decodeNumber (.frameClass op) (makeClassWord cmdType id) = .ok c.toInstr := by
  have hid := id.isLt
  have htype : BitVec.ofNat 8 (makeClassWord cmdType id / 256) = cmdType := by
    apply BitVec.eq_of_toNat_eq
    simp only [makeClassWord, BitVec.toNat_ofNat]
    omega
  have hlow : BitVec.ofNat 8 (makeClassWord cmdType id) = id := by
    apply BitVec.eq_of_toNat_eq
    simp only [makeClassWord, BitVec.toNat_ofNat]
    omega
  simp only [decodeNumber, htype, hlow, hc]

/-- The word of every row fits in the bytes of the row's format. -/
theorem encodeNumber_lt (i : Instr) : encodeNumber i < 256 ^ i.format.byteCount := by
  have hbus (we : Bool) (addr : Addr) (data : Byte) : (makeBusWord we addr data).toNat < 256 ^ 4 :=
    (Laws.makeBusWord_lt we addr data).trans (by decide)
  cases i with
  | rd | wrCmdExecute | wrCmdPoll | wrCmdRsvd | wrTxbuf | wrIgnored => exact hbus ..
  | stateIdle | statePredrain | stateScan | stateTxsend | stateTxflush | stateRxwait | statePostdrain
  | stateUnused7 => decide
  | rxclassExecuteNack | rxclassExecuteNotify | rxclassExecuteReply | rxclassPollNotify
  | rxclassPollOther => exact makeClassWord_lt ..

/-- What a row decodes to depends on its word alone: the bytes that carry it make it again. -/
theorem decode_encode (i : Instr) : decode i.format (encode i) = decodeNumber i.format (encodeNumber i) :=
  decode_bytesOfNumber (encodeNumber_lt i)

/-- A `TXBUF` address decodes to the row of its own index (R68). -/
theorem decodeBusWord_txbuf (k data : Byte) :
    decodeBusWord (makeBusWord true (BitVec.ofNat 17 (0x100 + k.toNat)) data) = .wrTxbuf k data := by
  have hk := k.isLt
  have haddr : (BitVec.ofNat 17 (0x100 + k.toNat)).toNat = 0x100 + k.toNat := by
    rw [BitVec.toNat_ofNat]
    omega
  have hne : BitVec.ofNat 17 (0x100 + k.toNat) ≠ 0 := fun h => by
    simp [h] at haddr
    omega
  have hindex : BitVec.ofNat 8 (0x100 + k.toNat) = k := by
    apply BitVec.eq_of_toNat_eq
    rw [BitVec.toNat_ofNat]
    omega
  rw [decodeBusWord_makeBusWord, if_neg (by simp), if_neg hne, haddr, hindex, if_pos (by omega)]

/-! ## The operand checks -/

theorem wellFormed_wrCmdRsvd {data : Byte} :
    (Instr.wrCmdRsvd data).WellFormed ↔ data ≠ 0x01 ∧ data ≠ 0x02 := by
  simp [Instr.WellFormed, Instr.wellFormed]

theorem wellFormed_wrIgnored {addr : Addr} {data : Byte} :
    (Instr.wrIgnored addr data).WellFormed ↔ addr ≠ 0 ∧ addr.toNat / 2 ^ 8 ≠ 0x001 := by
  simp [Instr.WellFormed, Instr.wellFormed]

theorem wellFormed_rxclassExecuteReply {cmdType id : Byte} :
    (Instr.rxclassExecuteReply cmdType id).WellFormed ↔
      cmdType ≠ Machine.notifyType ∧ ¬ (cmdType = 0x00 ∧ id = 0x02) := by
  simp [Instr.WellFormed, Instr.wellFormed, imp_iff_not_or]

theorem wellFormed_rxclassPollOther {cmdType id : Byte} :
    (Instr.rxclassPollOther cmdType id).WellFormed ↔ cmdType ≠ Machine.notifyType := by
  simp [Instr.WellFormed, Instr.wellFormed]

/-! ## The round trip -/

/-- A well-formed row's word decodes to the row: no earlier row of its format matches it (R68, R69). -/
theorem decodeNumber_encodeNumber {i : Instr} (h : i.WellFormed) :
    decodeNumber i.format (encodeNumber i) = .ok i := by
  cases i with
  | rd addr =>
    refine (decodeNumber_makeBusWord ..).trans ?_
    rw [decodeBusWord_makeBusWord, if_pos rfl]
  | wrCmdExecute | wrCmdPoll => rfl
  | wrCmdRsvd data =>
    obtain ⟨h1, h2⟩ := wellFormed_wrCmdRsvd.1 h
    refine (decodeNumber_makeBusWord ..).trans ?_
    rw [decodeBusWord_makeBusWord, if_neg (by simp), if_pos rfl, if_neg h1, if_neg h2]
  | wrTxbuf k data =>
    refine (decodeNumber_makeBusWord ..).trans ?_
    rw [decodeBusWord_txbuf]
  | wrIgnored addr data =>
    obtain ⟨hcmd, htx⟩ := wellFormed_wrIgnored.1 h
    refine (decodeNumber_makeBusWord ..).trans ?_
    rw [decodeBusWord_makeBusWord, if_neg (by simp), if_neg hcmd, if_neg htx]
  | stateIdle | statePredrain | stateScan | stateTxsend | stateTxflush | stateRxwait | statePostdrain
  | stateUnused7 => rfl
  | rxclassExecuteNack => exact decodeNumber_makeClassWord (c := .executeNack) rfl
  | rxclassExecuteNotify id =>
    refine decodeNumber_makeClassWord (c := .executeNotify id) ?_
    simp [frameClass]
  | rxclassExecuteReply cmdType id =>
    obtain ⟨hnotify, hnack⟩ := wellFormed_rxclassExecuteReply.1 h
    refine decodeNumber_makeClassWord (c := .executeReply cmdType id) ?_
    rw [frameClass, if_pos rfl, if_neg hnack, if_neg hnotify]
  | rxclassPollNotify id =>
    refine decodeNumber_makeClassWord (c := .pollNotify id) ?_
    simp [frameClass]
  | rxclassPollOther cmdType id =>
    have hnotify := wellFormed_rxclassPollOther.1 h
    refine decodeNumber_makeClassWord (c := .pollOther cmdType id) ?_
    rw [frameClass, if_neg (by decide), if_pos rfl, if_neg hnotify]

/-- Settles O1: the bytes of a row carry its word, and its word decodes to the row. -/
theorem decodeEncodeAgree : Obligations.DecodeEncodeAgree :=
  fun i h => (decode_encode i).trans (decodeNumber_encodeNumber h)

/-- Settles O4: each list of bytes is the encoding of its row. -/
theorem writtenWordsDecode : Obligations.WrittenWordsDecode :=
  ⟨decodeEncodeAgree (.rd 0x10003) rfl, decodeEncodeAgree .wrCmdExecute rfl,
    decodeEncodeAgree .wrCmdPoll rfl, decodeEncodeAgree (.wrCmdRsvd 0x03) rfl,
    decodeEncodeAgree (.wrTxbuf 0x00 0xFE) rfl, decodeEncodeAgree (.wrIgnored 0x00001 0xFF) rfl,
    decodeEncodeAgree .stateRxwait rfl, decodeEncodeAgree .rxclassExecuteNack rfl,
    decodeEncodeAgree (.rxclassPollNotify 0x06) rfl⟩

end Sys2Proof
end

section
/-! What the host reads: the registers, the two buffers and the reserved addresses of the window (R44 to R48), the
reset values of the registers behind them (R41), and the payload reported to the host (R35). -/

namespace Sys2Proof.Machine

variable (s : State)

/-! ## The window by region -/

theorem State.memRead_register {a : Addr} (h : a.toNat < 0x100) : s.memRead a = s.registerRead a.toNat :=
  if_pos h

/-- The addresses past the last register are reserved (R47). -/
theorem State.registerRead_reserved {a : Nat} (h : 0x1B ≤ a) : s.registerRead a = 0 := by
  unfold State.registerRead
  split <;> try omega
  rfl

theorem State.memRead_reserved {a : Addr}
    (h : (0x1B ≤ a.toNat ∧ a.toNat ≤ 0xFF) ∨ (0x200 ≤ a.toNat ∧ a.toNat ≤ 0xFFFF)) :
    s.memRead a = 0 := by
  rcases h with ⟨hlo, hhi⟩ | ⟨hlo, hhi⟩
  · rw [s.memRead_register (by omega), s.registerRead_reserved hlo]
  · rw [State.memRead, if_neg (by omega), if_neg (by omega), if_pos (by omega)]

theorem State.memRead_txbuf {k : Nat} (h : k < 256) :
    s.memRead (BitVec.ofNat 17 (0x100 + k)) = s.bufferRead (s.txByte k) := by
  have ha : (BitVec.ofNat 17 (0x100 + k)).toNat = 0x100 + k := by
    rw [BitVec.toNat_ofNat]
    omega
  rw [State.memRead, ha, if_neg (by omega), if_pos (by omega), Nat.add_sub_cancel_left]

/-- The last region of the window is `RXBUF` below `MAX_PAYLOAD`, and 0x00 from there on (R48). -/
theorem State.memRead_rxbuf {k : Nat} (h : k < 65536) :
    s.memRead (BitVec.ofNat 17 (0x10000 + k)) =
      if k < s.maxPayload.toNat then s.bufferRead (s.rxByte k) else 0 := by
  have ha : (BitVec.ofNat 17 (0x10000 + k)).toNat = 0x10000 + k := by
    rw [BitVec.toNat_ofNat]
    omega
  rw [State.memRead, ha, if_neg (by omega), if_neg (by omega), if_neg (by omega), Nat.add_sub_cancel_left]

@[simp] theorem State.bufferRead_some (v : Byte) : s.bufferRead (some v) = v := rfl

/-- A payload byte with a value reads as it (R48). -/
theorem State.memRead_of_rxByte {k : Nat} {v : Byte} (h : k < s.maxPayload.toNat) (hv : s.rxByte k = some v) :
    s.memRead (BitVec.ofNat 17 (0x10000 + k)) = v := by
  rw [s.memRead_rxbuf (h.trans s.maxPayload.isLt), if_pos h, hv, s.bufferRead_some]

/-! ## The registers -/

/-- The sum of R28 packs its flags: each weight is one bit. -/
theorem flags_testBit (b d o n c : Bool) (i : Fin 8) :
    (b.toNat + 2 * d.toNat + 4 * o.toNat + 8 * n.toNat + 16 * c.toNat).testBit i =
      (decide (i.val = 0) && b || decide (i.val = 1) && d || decide (i.val = 2) && o ||
        decide (i.val = 3) && n || decide (i.val = 4) && c) := by
  revert b d o n c i
  decide

/-- `STATUS` bit by bit (R28). -/
theorem State.status_getLsbD (i : Nat) : s.status.getLsbD i =
    (decide (i = 0) && s.busy || decide (i = 1) && s.done || decide (i = 2) && s.ok ||
      decide (i = 3) && s.notify || decide (i = 4) && s.cerr) := by
  by_cases hi : i < 8
  · rw [State.status, BitVec.getLsbD_ofNat, decide_eq_true hi, Bool.true_and]
    exact flags_testBit _ _ _ _ _ ⟨i, hi⟩
  · rw [BitVec.getLsbD_of_ge _ _ (by omega)]
    simp only [show i ≠ 0 by omega, show i ≠ 1 by omega, show i ≠ 2 by omega, show i ≠ 3 by omega,
      show i ≠ 4 by omega, decide_false, Bool.false_and, Bool.or_false]

theorem State.memRead_header {k : Nat} (h : k ≤ 5) :
    s.memRead (BitVec.ofNat 17 (0x00008 + k)) = s.hdr.get k := by
  interval_cases k <;> rfl

/-- Settles O13: the window region by region, and a 16-bit register by its two halves. -/
theorem windowContents : Obligations.WindowContents := by
  intro s
  have hpair := joinBytes_hi_lo
  have hwide {n : Nat} (v : BitVec n) (h : n ≤ 8) : (v.setWidth 8).toNat = v.toNat :=
    BitVec.toNat_setWidth_of_le h
  refine ⟨rfl, s.status_getLsbD, hwide s.cause (by decide), rfl, hpair _, hpair _,
    fun k hk => s.memRead_header hk, hpair _, hpair _, hwide s.state (by decide),
    hwide s.op (by decide), rfl, hpair _, hpair _, hpair _, fun a ha => s.memRead_reserved ha,
    fun k hk v hv => ?_, fun k hk v hv => s.memRead_of_rxByte hk hv, fun k hk hmax => ?_⟩
  · rw [s.memRead_txbuf hk, hv, s.bufferRead_some]
  · rw [s.memRead_rxbuf hk, if_neg (by omega)]

/-! ## The reset values -/

theorem Header.zero_get (k : Nat) : Header.zero.get k = 0 := by
  unfold Header.get
  split_ifs <;> rfl

/-- Settles O9: the registers as R41 lists them, and two empty memories. -/
theorem resetValues : Obligations.ResetValues :=
  ⟨rfl, rfl, rfl, rfl, rfl, rfl, rfl, rfl, rfl, fun k _ => Header.zero_get k, rfl, rfl, rfl, rfl, rfl, rfl, rfl,
    Memory.get_nil, Memory.get_nil⟩

/-! ## The reported payload -/

/-- A non-empty reported payload lies inside the captured bytes and inside `RXBUF` (R42 item 7). -/
theorem State.Inv.plen_le {s : State} (h : s.Inv) {k : Nat} (hk : k < s.plen.toNat) :
    k < s.pcnt.toNat ∧ k < s.maxPayload.toNat := by
  have hne : s.plen ≠ 0 := fun h0 => by simp [h0] at hk
  obtain ⟨-, hplen, hmax, hpcnt⟩ := h.payloadLength hne
  rw [hplen] at hk
  exact ⟨hk.trans_le hpcnt, hk.trans_le hmax⟩

/-- Settles O59: a reported byte is a captured one, and captured bytes have values (R24, R95). -/
theorem reportedPayloadIsWritten : Obligations.ReportedPayloadIsWritten := by
  intro s h k hk
  obtain ⟨hpcnt, hmax⟩ := h.plen_le hk
  obtain ⟨v, hv⟩ := Option.isSome_iff_exists.1 (h.payloadWritten k hpcnt)
  exact ⟨v, hv, s.memRead_of_rxByte hmax hv⟩

end Sys2Proof.Machine
end

section
/-! What a step can do, said once: the cases of every phase row with what it leaves unchanged (R82 to R101), the
host access before it (R83), and the step as a whole (R10, R116, R117). -/

namespace Sys2Proof.Machine

variable {s t : State}

/-! ## The phase rows, case by case -/

theorem execStatePredrain_cases (s : State) :
    (s.inp.rxValid = true ∧ execStatePredrain s = .next s.pop) ∨
    (s.inp.rxValid = false ∧ execStatePredrain s = .next { s with sidx := 0, state := phaseScan }) := by
  cases h : s.inp.rxValid <;> simp [execStatePredrain, h]

theorem execStateScan_of_unwritten (h : s.txByte s.sidx.toNat = none) :
    execStateScan s = .fault .unwrittenCommandByte := by
  rw [execStateScan, h]

/-- At a byte with a value the scan stops at the sentinel, ends BADCMD at the last index, or goes on (R85). -/
theorem execStateScan_cases {b : Byte} (h : s.txByte s.sidx.toNat = some b) :
    execStateScan s = .next { s with txlen := s.sidx + 1, tidx := 0, state := phaseTxsend } ∨
    (s.sidx.toNat = 254 ∧ execStateScan s = .next s.badCommand) ∨
    execStateScan s = .next { s with sidx := s.sidx + 1 } := by
  rw [execStateScan, h]
  simp only
  split
  · exact .inl rfl
  · split
    next hlast => exact .inr (.inl ⟨hlast, rfl⟩)
    next => exact .inr (.inr rfl)

/-- A ready transport takes the byte at `TIDX` (R86). -/
theorem execStateTxsend_of_ready {b : Byte} (hr : s.inp.txReady = true) (hb : s.txByte s.tidx.toNat = some b) :
    execStateTxsend s = .next { s.push b with
      tidx := s.tidx + 1
      state := if s.tidx.toNat + 1 = s.txlen.toNat then phaseTxflush else s.state } := by
  rw [execStateTxsend, if_pos hr, hb, Option.getD_some]

theorem execStateTxsend_of_not_ready (hr : s.inp.txReady = false) : execStateTxsend s = .next s := by
  simp [execStateTxsend, hr]

theorem execStateTxflush_cases (s : State) :
    execStateTxflush s = .next { s with state := phaseRxwait } ∨ execStateTxflush s = .next s := by
  unfold execStateTxflush
  split
  · exact .inl rfl
  · exact .inr rfl

theorem execStatePostdrain_cases (s : State) :
    (s.inp.rxValid = true ∧ execStatePostdrain s = .next s.pop) ∨
    (s.inp.rxValid = false ∧
      execStatePostdrain s = .next { s with done := true, state := phaseIdle }) := by
  cases h : s.inp.rxValid <;> simp [execStatePostdrain, h]

/-- Settles O25: the register counts up as R86 writes it. -/
theorem txsendStep : Obligations.TxsendStep := by
  intro s b _ hb
  have hsucc : s.tidx + 1 = BitVec.ofNat 8 (s.tidx.toNat + 1) := by
    rw [BitVec.ofNat_add, BitVec.ofNat_toNat, BitVec.setWidth_eq]
    rfl
  exact ⟨fun hr => (execStateTxsend_of_ready hr hb).trans (by rw [hsucc]; rfl), execStateTxsend_of_not_ready⟩

/-- Settles O27, by the row's own meaning (R17). -/
theorem unusedStateFaults : Obligations.UnusedStateFaults := fun _ => rfl

/-! ## What a phase row leaves unchanged -/

/-- The index of the one `RXBUF` byte that an RXWAIT step may write: `PCNT` after resynchronisation (R94, R95). -/
def State.captureIndex (s : State) : Nat := if s.inp.rxData = startByte then 0 else s.pcnt.toNat

theorem State.resync_pcnt_toNat (s : State) : (s.resync s.inp.rxData).pcnt.toNat = s.captureIndex := by
  rw [State.resync_eq, State.captureIndex]
  split <;> rfl

theorem State.captureIndex_le (s : State) : s.captureIndex ≤ s.pcnt.toNat := by
  unfold State.captureIndex
  split
  · exact Nat.zero_le _
  · exact le_rfl

/-- The two ways in which `BUSY` falls (R29, R85, R101). -/
def ClosesTransaction (s t : State) : Prop :=
  t.done = true ∧
    ((s.state = phasePostdrain ∧ s.inp.rxValid = false) ∨
      (s.state = phaseScan ∧ s.sidx.toNat = 254 ∧ t.cause = causeBadcmd ∧ t.ok = false))

/-- What every phase row leaves unchanged: `OP`, `TXBUF`, all of `RXBUF` but the one byte that RXWAIT captures, and
IDLE apart from the two ends of a transaction. -/
structure PhaseRowFrame (s t : State) : Prop where
  op : t.op = s.op
  txbuf : t.txbuf = s.txbuf
  rxbuf : t.rxbuf = s.rxbuf ∨
    (s.state = phaseRxwait ∧ t.rxbuf = s.rxbuf.set s.captureIndex s.inp.rxData)
  idle : t.state = phaseIdle → s.state = phaseIdle ∨ ClosesTransaction s t

/-- What the rules after payload capture leave unchanged (R96 to R100, R107). -/
structure ClosingFrame (s t : State) : Prop where
  op : t.op = s.op
  txbuf : t.txbuf = s.txbuf
  rxbuf : t.rxbuf = s.rxbuf
  state : t.state = s.state ∨ t.state = phasePostdrain

/-- An RXWAIT row that captures at most its byte and then closes has the frame of a phase row. -/
theorem ClosingFrame.phaseRowFrame {u : State} (h : ClosingFrame u t) (hs : s.state = phaseRxwait)
    (hop : u.op = s.op) (htx : u.txbuf = s.txbuf) (hstate : u.state = s.state)
    (hrx : u.rxbuf = s.rxbuf ∨ u.rxbuf = s.rxbuf.set s.captureIndex s.inp.rxData) : PhaseRowFrame s t where
  op := h.op.trans hop
  txbuf := h.txbuf.trans htx
  rxbuf := hrx.imp h.rxbuf.trans fun hset => ⟨hs, h.rxbuf.trans hset⟩
  idle hidle := by rcases h.state with hq | hq <;> simp [hq, hstate, hs] at hidle

theorem finishRx_frame (o : RxOutcome) (s : State) : ∃ t, finishRx o s = .next t ∧ ClosingFrame s t := by
  obtain ⟨c, k, n, f, e, h⟩ := finishRx_cases o s
  exact ⟨_, h, rfl, rfl, rfl, .inr rfl⟩

theorem State.tick_frame (s : State) : ClosingFrame s s.tick := by
  rw [State.tick_eq]
  exact ⟨rfl, rfl, rfl, .inl rfl⟩

theorem closeByte_frame (b : Byte) (s : State) : ∃ t, closeByte b s = .next t ∧ ClosingFrame s t := by
  rcases closeByte_cases b s with ⟨-, -, h⟩ | ⟨-, -, h⟩ | ⟨-, -, h⟩ <;> rw [h]
  · exact finishRx_frame .complete s
  · obtain ⟨t, ht, hf⟩ := finishRx_frame .incomplete { s with hidx := sat16Succ s.hidx }
    exact ⟨t, ht, { hf with }⟩
  · exact ⟨_, rfl, { State.tick_frame { s with hidx := sat16Succ s.hidx } with }⟩

/-- A consumed byte has no place only at or beyond the ceiling; elsewhere it is captured at most at the capture
index (R93 to R100). -/
theorem processByte_cases (hs : s.state = phaseRxwait) :
    (s.maxPayload.toNat ≤ s.pcnt.toNat ∧ processByte s.inp.rxData s = .fault .rxbufOverrun) ∨
    ∃ t, processByte s.inp.rxData s = .next t ∧ PhaseRowFrame s t := by
  unfold processByte
  have hindex := s.resync_pcnt_toNat
  split
  next hnone =>
    have hmax := State.capturePayload_eq_none hnone
    rw [hindex, State.resync_eq] at hmax
    exact .inl ⟨hmax.trans s.captureIndex_le, rfl⟩
  next u hu =>
    obtain ⟨t, ht, hf⟩ := closeByte_frame s.inp.rxData (u.captureHeader s.inp.rxData).latchLength
    refine .inr ⟨t, ht, ?_⟩
    simp only [State.latchLength_eq, State.captureHeader_eq] at hf
    rcases State.capturePayload_cases hu with ⟨-, -, rfl⟩ | ⟨-, rfl⟩ <;>
      simp only [State.resync_eq] at hf hindex
    · exact hf.phaseRowFrame hs rfl rfl rfl (.inr (by simp only [hindex]))
    · exact hf.phaseRowFrame hs rfl rfl rfl (.inl rfl)

/-- RXWAIT stops only where an append lies outside `RXBUF` (R89, R95). -/
theorem execStateRxwait_cases (hs : s.state = phaseRxwait) :
    (s.maxPayload.toNat ≤ s.pcnt.toNat ∧ execStateRxwait s = .fault .rxbufOverrun) ∨
    ∃ t, execStateRxwait s = .next t ∧ PhaseRowFrame s t := by
  unfold execStateRxwait
  split
  · obtain ⟨t, ht, hf⟩ := finishRx_frame .timeout s
    exact .inr ⟨t, ht, hf.phaseRowFrame hs rfl rfl rfl (.inl rfl)⟩
  · split
    · rcases processByte_cases (s := s.pop) hs with hstop | ⟨t, ht, hf⟩
      · exact .inl hstop
      · exact .inr ⟨t, ht, { hf with }⟩
    · exact .inr ⟨_, rfl, s.tick_frame.phaseRowFrame hs rfl rfl rfl (.inl rfl)⟩

theorem execStatePredrain_frame : ∃ t, execStatePredrain s = .next t ∧ PhaseRowFrame s t := by
  rcases execStatePredrain_cases s with ⟨-, h⟩ | ⟨-, h⟩
  · exact ⟨_, h, rfl, rfl, .inl rfl, .inl⟩
  · exact ⟨_, h, rfl, rfl, .inl rfl, by simp⟩

theorem execStateScan_frame (hs : s.state = phaseScan) {b : Byte} (hb : s.txByte s.sidx.toNat = some b) :
    ∃ t, execStateScan s = .next t ∧ PhaseRowFrame s t := by
  rcases execStateScan_cases hb with h | ⟨hlast, h⟩ | h
  · exact ⟨_, h, rfl, rfl, .inl rfl, by simp⟩
  · exact ⟨_, h, rfl, rfl, .inl rfl, fun _ => .inr ⟨rfl, .inr ⟨hs, hlast, rfl, rfl⟩⟩⟩
  · exact ⟨_, h, rfl, rfl, .inl rfl, .inl⟩

theorem execStateTxsend_frame (hs : s.state = phaseTxsend) :
    ∃ t, execStateTxsend s = .next t ∧ PhaseRowFrame s t := by
  unfold execStateTxsend
  split
  · exact ⟨_, rfl, rfl, rfl, .inl rfl, by simp only [hs]; split <;> simp⟩
  · exact ⟨_, rfl, rfl, rfl, .inl rfl, .inl⟩

theorem execStateTxflush_frame : ∃ t, execStateTxflush s = .next t ∧ PhaseRowFrame s t := by
  rcases execStateTxflush_cases s with h | h
  · exact ⟨_, h, rfl, rfl, .inl rfl, by simp⟩
  · exact ⟨_, h, rfl, rfl, .inl rfl, .inl⟩

theorem execStatePostdrain_frame (hs : s.state = phasePostdrain) :
    ∃ t, execStatePostdrain s = .next t ∧ PhaseRowFrame s t := by
  rcases execStatePostdrain_cases s with ⟨-, h⟩ | ⟨hv, h⟩
  · exact ⟨_, h, rfl, rfl, .inl rfl, .inl⟩
  · exact ⟨_, h, rfl, rfl, .inl rfl, fun _ => .inr ⟨rfl, .inl ⟨hs, hv⟩⟩⟩

/-- What the row of the phase in `STATE` does: it stops on one of the three faults of a phase, or it answers a next
state (R17, R82 to R101). -/
theorem phaseRow_cases (s : State) :
    (s.state = 7 ∧ exec (decodePhase s.state) s = .fault .unreachableState) ∨
    (s.state = phaseScan ∧ s.txByte s.sidx.toNat = none ∧
      exec (decodePhase s.state) s = .fault .unwrittenCommandByte) ∨
    (s.state = phaseRxwait ∧ s.maxPayload.toNat ≤ s.pcnt.toNat ∧
      exec (decodePhase s.state) s = .fault .rxbufOverrun) ∨
    ∃ t, exec (decodePhase s.state) s = .next t ∧ PhaseRowFrame s t := by
  unfold decodePhase
  split_ifs with h0 h1 h2 h3 h4 h5 h6
  · exact .inr (.inr (.inr ⟨s, rfl, rfl, rfl, .inl rfl, .inl⟩))
  · exact .inr (.inr (.inr execStatePredrain_frame))
  · cases hb : s.txByte s.sidx.toNat with
    | none => exact .inr (.inl ⟨h2, rfl, execStateScan_of_unwritten hb⟩)
    | some b => exact .inr (.inr (.inr (execStateScan_frame h2 hb)))
  · exact .inr (.inr (.inr (execStateTxsend_frame h3)))
  · exact .inr (.inr (.inr execStateTxflush_frame))
  · rcases execStateRxwait_cases h5 with ⟨hmax, h⟩ | h
    · exact .inr (.inr (.inl ⟨h5, hmax, h⟩))
    · exact .inr (.inr (.inr h))
  · exact .inr (.inr (.inr (execStatePostdrain_frame h6)))
  · exact .inl ⟨by bv_omega, rfl⟩

theorem phaseRow_frame (h : exec (decodePhase s.state) s = .next t) : PhaseRowFrame s t := by
  rcases phaseRow_cases s with ⟨-, hx⟩ | ⟨-, -, hx⟩ | ⟨-, -, hx⟩ | ⟨u, hx, hf⟩ <;> rw [hx] at h <;> cases h
  exact hf

theorem phaseRow_unreachableState_iff (s : State) :
    exec (decodePhase s.state) s = .fault .unreachableState ↔ s.state = 7 := by
  refine ⟨fun h => ?_, fun h => by rw [h]; rfl⟩
  rcases phaseRow_cases s with ⟨h7, -⟩ | ⟨-, -, hx⟩ | ⟨-, -, hx⟩ | ⟨u, hx, -⟩
  · exact h7
  all_goals simp [hx] at h

theorem phaseRow_unwrittenCommandByte_iff (s : State) :
    exec (decodePhase s.state) s = .fault .unwrittenCommandByte ↔
      s.state = phaseScan ∧ s.txByte s.sidx.toNat = none := by
  refine ⟨fun h => ?_, fun ⟨hs, hb⟩ => by rw [hs]; exact execStateScan_of_unwritten hb⟩
  rcases phaseRow_cases s with ⟨-, hx⟩ | ⟨hs, hb, -⟩ | ⟨-, -, hx⟩ | ⟨u, hx, -⟩
  · simp [hx] at h
  · exact ⟨hs, hb⟩
  all_goals simp [hx] at h

theorem phaseRow_ne_wideAccess (s : State) : exec (decodePhase s.state) s ≠ .fault .wideAccess := by
  rcases phaseRow_cases s with ⟨-, hx⟩ | ⟨-, -, hx⟩ | ⟨-, -, hx⟩ | ⟨u, hx, -⟩ <;> simp [hx]

/-! ## The host access -/

/-- The host access of a step always answers a next state, as its row does (R74 to R81); without one the state
stays. -/
theorem hostAccess_cases (p : Pins) (s : State) : ∃ t, hostAccess p s = .next t ∧
    ((∃ b, t = s.driveRdata b) ∨ (s.state = phaseIdle ∧ t = s.accept opExecute) ∨
      (s.state = phaseIdle ∧ t = s.accept opPoll) ∨ t = s.refuseWrite ∨
      (s.state = phaseIdle ∧ ∃ k b, k < txbufSize ∧ t = { s with txbuf := s.txbuf.set k b }) ∨
      t = s) := by
  unfold hostAccess
  split
  · exact busWord_cases _ s
  · exact ⟨s, rfl, by simp⟩

/-- While busy the host access changes at most `bus_rdata` and `CERR` (R77, R80, R83). -/
theorem hostAccess_of_busy (p : Pins) (hs : s.state ≠ phaseIdle) :
    ∃ o c, hostAccess p s = .next { s with out := o, cerr := c } := by
  obtain ⟨t, ht, ⟨b, rfl⟩ | ⟨hidle, -⟩ | ⟨hidle, -⟩ | rfl | ⟨hidle, -⟩ | rfl⟩ := hostAccess_cases p s
  · exact ⟨_, _, ht⟩
  · exact absurd hidle hs
  · exact absurd hidle hs
  · exact ⟨_, _, ht⟩
  · exact absurd hidle hs
  · exact ⟨_, _, ht⟩

/-- No host access writes `RXBUF`, and what it writes to `TXBUF` keeps the canonical form (R79, R81). -/
theorem hostAccess_memories {p : Pins} (h : hostAccess p s = .next t) :
    t.rxbuf = s.rxbuf ∧ (Memory.wf s.txbuf → Memory.wf t.txbuf) := by
  obtain ⟨u, hu, hcases⟩ := hostAccess_cases p s
  obtain rfl : u = t := by simpa [hu] using h
  rcases hcases with ⟨b, rfl⟩ | ⟨-, rfl⟩ | ⟨-, rfl⟩ | rfl | ⟨-, k, b, -, rfl⟩ | rfl
  case inr.inr.inr.inr.inl => exact ⟨rfl, Memory.set_wf k b⟩
  all_goals exact ⟨rfl, id⟩

/-- A bus word other than the two command writes keeps `OP` and `STATE` (R74, R78 to R81). -/
theorem busWord_keeps_op_state {w : BitVec 26}
    (hw : ¬ (busWordWe w = true ∧ busWordAddr w = 0 ∧ (busWordData w = 0x01 ∨ busWordData w = 0x02)))
    (h : exec (decodeBusWord w) s = .next t) : t.op = s.op ∧ t.state = s.state := by
  unfold decodeBusWord at h
  split_ifs at h with hrd h0 h1 h2 htx
  · cases h
    exact ⟨rfl, rfl⟩
  · exact absurd ⟨by simpa using hrd, h0, .inl h1⟩ hw
  · exact absurd ⟨by simpa using hrd, h0, .inr h2⟩ hw
  · simp only [exec, execWrCmdRsvd] at h
    split_ifs at h <;> cases h <;> exact ⟨rfl, rfl⟩
  · simp only [exec, execWrTxbuf] at h
    split_ifs at h <;> cases h <;> exact ⟨rfl, rfl⟩
  · cases h
    exact ⟨rfl, rfl⟩

/-- A host access that changes `OP` or `STATE` writes 0x01 or 0x02 to CMD (R59, R73). -/
theorem command_of_hostAccess {p : Pins} (h : hostAccess p s = .next t)
    (hne : t.op ≠ s.op ∨ t.state ≠ s.state) :
    p.busEn = true ∧ p.busWe = true ∧ p.busAddr = 0 ∧ (p.busWdata = 0x01 ∨ p.busWdata = 0x02) := by
  unfold hostAccess at h
  split at h
  next hen =>
    refine ⟨hen, by_contra fun hw => ?_⟩
    obtain ⟨hop, hstate⟩ := busWord_keeps_op_state (by simpa [pinsBusWord] using hw) h
    exact hne.elim (· hop) (· hstate)
  next =>
    cases h
    simp at hne

/-! ## The step -/

theorem step_of_reset (hr : s.nextPins.rst = true) : step s = .next (s.resetStep s.nextPins) := by
  rw [step, if_pos hr]

theorem step_of_breach (hr : s.nextPins.rst = false) (hc : contractHolds s s.nextPins = false) :
    step s = .fault .transportContract := by
  simp [step, hr, hc]

theorem step_of_wide (hr : s.nextPins.rst = false) (hc : contractHolds s s.nextPins = true)
    (hw : s.nextPins.busEn = true ∧ s.nextPins.busWide = true) : step s = .fault .wideAccess := by
  simp [step, hr, hc, hw]

/-- What the row of the phase sees in a busy step: the state at the start of the step with its inputs sampled, and
the ports and `CERR` as the host access left them (R83). -/
def State.busyView (s : State) (o : Ports) (c : Bool) : State :=
  { s.sample s.nextPins with out := o, cerr := c }

section
variable (hr : s.nextPins.rst = false) (hc : contractHolds s s.nextPins = true)
  (hw : s.nextPins.busEn = true → s.nextPins.busWide = false)
include hr hc hw

/-- In IDLE the step is the host access alone (R82). -/
theorem step_of_idle (hs : s.state = phaseIdle) : step s = hostAccess s.nextPins (s.sample s.nextPins) := by
  rw [step_eq_rows hr hc hw, hs]
  exact andThen_stateIdle _

/-- While busy the step is the row of the phase (R83). -/
theorem step_of_busy (hs : s.state ≠ phaseIdle) :
    ∃ o c, step s = exec (decodePhase s.state) (s.busyView o c) := by
  obtain ⟨o, c, h⟩ := hostAccess_of_busy (s := s.sample s.nextPins) s.nextPins hs
  exact ⟨o, c, by rw [step_eq_rows hr hc hw, h, andThen_next]; rfl⟩

end

/-- A step that answers a next state without a reset met neither of the model faults of its inputs (R116). -/
theorem inputs_of_step_eq_next (hr : s.nextPins.rst = false) (h : step s = .next t) :
    contractHolds s s.nextPins = true ∧ (s.nextPins.busEn = true → s.nextPins.busWide = false) := by
  rcases step_cases h with ⟨hr', -⟩ | ⟨-, hc, hw, -⟩
  · simp [hr] at hr'
  · exact ⟨hc, by simpa using hw⟩

theorem hostAccess_of_step (hr : s.nextPins.rst = false) (hs : s.state = phaseIdle) (h : step s = .next t) :
    hostAccess s.nextPins (s.sample s.nextPins) = .next t := by
  obtain ⟨hc, hw⟩ := inputs_of_step_eq_next hr h
  exact (step_of_idle hr hc hw hs).symm.trans h

/-- A busy step has the frame of its phase row: no host access touches what the frame names (R83). -/
theorem phaseRowFrame_of_step (hr : s.nextPins.rst = false) (hs : s.state ≠ phaseIdle) (h : step s = .next t) :
    PhaseRowFrame (s.sample s.nextPins) t := by
  obtain ⟨hc, hw⟩ := inputs_of_step_eq_next hr h
  obtain ⟨o, c, hx⟩ := step_of_busy hr hc hw hs
  have hf := phaseRow_frame (s := s.busyView o c) (hx.symm.trans h)
  exact { hf with }

end Sys2Proof.Machine
end

section
/-! The rules of the whole machine, each from the cases of a step: what keeps the memories, how a transaction starts
and ends, how a step stops, and what a run of a host program answers. -/

namespace Sys2Proof.Machine

variable {s : State}

/-! ## What keeps the memories -/

/-- Settles O54: no phase row writes `TXBUF`, and a busy DPF refuses the host's writes (R80). -/
theorem busyStepsKeepCommandBuffer : Obligations.BusyStepsKeepCommandBuffer :=
  fun _ _ hs hr h => (phaseRowFrame_of_step hr hs h).txbuf

/-- Settles O55: in IDLE the host cannot write `RXBUF`; while busy the frame of the phase row says it. -/
theorem onlyReceptionWritesPayload : Obligations.OnlyReceptionWritesPayload := by
  intro s t hr h
  by_cases hs : s.state = phaseIdle
  · have hrx : t.rxbuf = s.rxbuf := (hostAccess_memories (hostAccess_of_step hr hs h)).1
    exact ⟨fun _ => hrx, fun k _ => congrArg (·.get k) hrx⟩
  · rcases (phaseRowFrame_of_step hr hs h).rxbuf with hrx | ⟨hwait, hrx⟩
    · exact ⟨fun _ => hrx, fun k _ => congrArg (·.get k) hrx⟩
    · refine ⟨fun hne => absurd hwait hne, fun k hk => ?_⟩
      exact (congrArg (·.get k) hrx).trans (Memory.get_set_of_ne _ _ hk)

/-- Settles O50: a reset empties both memories, and every write to one keeps its form. -/
theorem stepKeepsMemoryForm : Obligations.StepKeepsMemoryForm := by
  intro s t ⟨htx, hrx⟩ h
  cases hr : s.nextPins.rst with
  | true =>
    obtain rfl : s.resetStep s.nextPins = t := by simpa [step_of_reset hr] using h
    unfold State.resetStep
    split <;> exact ⟨Memory.wf_nil, Memory.wf_nil⟩
  | false =>
    by_cases hs : s.state = phaseIdle
    · obtain ⟨hkeep, hform⟩ := hostAccess_memories (hostAccess_of_step hr hs h)
      exact ⟨hform htx, hkeep ▸ hrx⟩
    · have hf := phaseRowFrame_of_step hr hs h
      refine ⟨hf.txbuf ▸ htx, ?_⟩
      rcases hf.rxbuf with hkeep | ⟨-, hset⟩
      · exact hkeep ▸ hrx
      · exact hset ▸ Memory.set_wf _ _ hrx

/-! ## How a transaction starts and ends -/

/-- Settles O53: while busy no row changes `OP`, and in IDLE the step is the host access alone. -/
theorem onlyCommandsStartTransactions : Obligations.OnlyCommandsStartTransactions := by
  intro s t hr h hne
  by_cases hs : s.state = phaseIdle
  · refine ⟨hs, command_of_hostAccess (hostAccess_of_step hr hs h) (hne.imp id fun ⟨_, ht⟩ => ?_)⟩
    exact fun heq => ht (heq.trans hs)
  · rcases hne with hop | ⟨hidle, -⟩
    · exact absurd (phaseRowFrame_of_step hr hs h).op hop
    · exact absurd hidle hs

/-- Settles O58: the frame of the phase row names the two ways into IDLE. -/
theorem transactionEndsWithDone : Obligations.TransactionEndsWithDone :=
  fun _ _ hs hr h hidle => ((phaseRowFrame_of_step hr hs h).idle hidle).resolve_left hs

/-! ## How a step stops -/

/-- Settles O11: IDLE stops on none of them, and a busy step stops as the row of its phase does. -/
theorem modelFaultConditions : Obligations.ModelFaultConditions := by
  intro s hr hc
  by_cases hw : s.nextPins.busEn = true ∧ s.nextPins.busWide = true
  · simp [step_of_wide hr hc hw, hw]
  · have hw' : s.nextPins.busEn = true → s.nextPins.busWide = false := by simpa using hw
    by_cases hs : s.state = phaseIdle
    · obtain ⟨t, ht, -⟩ := hostAccess_cases s.nextPins (s.sample s.nextPins)
      simp [step_of_idle hr hc hw' hs, ht, hw, hs]
    · obtain ⟨o, c, hx⟩ := step_of_busy hr hc hw' hs
      rw [hx]
      exact ⟨iff_of_false (phaseRow_ne_wideAccess (s.busyView o c)) hw,
        (phaseRow_unreachableState_iff (s.busyView o c)).trans (and_iff_right hw').symm,
        (phaseRow_unwrittenCommandByte_iff (s.busyView o c)).trans (and_iff_right hw').symm⟩

/-- Under the invariants a step answers a next state, or stops on a fault of its inputs or at an unwritten command
byte (R42, R116). -/
theorem State.Inv.step_outcome (h : s.Inv) :
    (∃ t, step s = .next t) ∨ step s = .fault .transportContract ∨ step s = .fault .wideAccess ∨
      step s = .fault .unwrittenCommandByte := by
  cases hr : s.nextPins.rst with
  | true => exact .inl ⟨_, step_of_reset hr⟩
  | false =>
    cases hc : contractHolds s s.nextPins with
    | false => exact .inr (.inl (step_of_breach hr hc))
    | true =>
      by_cases hw : s.nextPins.busEn = true ∧ s.nextPins.busWide = true
      · exact .inr (.inr (.inl (step_of_wide hr hc hw)))
      · have hw' : s.nextPins.busEn = true → s.nextPins.busWide = false := by simpa using hw
        by_cases hs : s.state = phaseIdle
        · obtain ⟨t, ht, -⟩ := hostAccess_cases s.nextPins (s.sample s.nextPins)
          exact .inl ⟨t, (step_of_idle hr hc hw' hs).trans ht⟩
        · obtain ⟨o, c, hx⟩ := step_of_busy hr hc hw' hs
          rcases phaseRow_cases (s.busyView o c) with
            ⟨h7, -⟩ | ⟨-, -, hrow⟩ | ⟨hwait, hmax, -⟩ | ⟨t, hrow, -⟩
          · exact absurd h7 h.phase
          · exact .inr (.inr (.inr (hx.trans hrow)))
          · exact absurd hmax (h.belowCeiling hwait).not_ge
          · exact .inl ⟨t, hx.trans hrow⟩

/-- Settles O51: the two faults and a refusal are none of the outcomes that the invariants leave. -/
theorem invariantsExcludeFaults : Obligations.InvariantsExcludeFaults := by
  intro s h
  rcases h.step_outcome with ⟨t, hx⟩ | hx | hx | hx <;> simp [hx]

/-! ## Runs of a host program -/

/-- The inputs of the coming steps are no invariant's concern (R42). -/
theorem State.Inv.schedule (h : s.Inv) (ps : List Pins) : { s with schedule := ps }.Inv := { h with }

/-- Settles O60, by induction on the environment's inputs: every step of the run keeps the invariants, and the run
answers a state only where `STATE = IDLE` (R149). -/
theorem runResultIsIdle : Obligations.RunResultIsIdle := by
  intro acts env s t h hrun
  induction env generalizing acts s with
  | nil => simp [runProgram] at hrun
  | cons e env ih =>
    unfold runProgram at hrun
    split at hrun
    next => cases hrun
    next => cases hrun
    next u hu =>
      have hinv : u.Inv := stepKeepsInvariants _ _ (h.schedule _) hu
      split at hrun
      next hdone =>
        cases hrun
        exact ⟨hdone.2, hinv⟩
      next => exact ih _ _ hinv hrun

end Sys2Proof.Machine
end

section
/-! A host access beside the row of the phase (R54, R56, R83): what an access can mark in a busy step, the read data
and `CERR`, no phase row reads or writes. -/

namespace Sys2Proof.Machine

variable {s : State} {r : Option Byte → Option Byte} {c : Bool → Bool}

/-! ## The marks of a host access -/

/-- What a host access of a busy step can do: change the `bus_rdata` that the step drives, and `CERR` (R77, R83). -/
def State.hostMark (r : Option Byte → Option Byte) (c : Bool → Bool) (s : State) : State :=
  { s with out := { s.out with rdata := r s.out.rdata }, cerr := c s.cerr }

theorem State.driveRdata_eq_hostMark (s : State) (b : Byte) : s.driveRdata b = s.hostMark (fun _ => some b) id := rfl

theorem State.refuseWrite_eq_hostMark (s : State) : s.refuseWrite = s.hostMark id (fun _ => true) := rfl

/-- A rule that runs after the host access as it runs before it. -/
def HostBlind (f : State → Host.Outcome State Fault Refusal) : Prop :=
  ∀ (r : Option Byte → Option Byte) (c : Bool → Bool) (s : State),
    f (s.hostMark r c) = andThen (f s) (fun t => .next (t.hostMark r c))

/-! ## The rules of a phase run as if there was no host access -/

theorem execStatePredrain_hostBlind : HostBlind execStatePredrain := fun r c s => by
  rw [execStatePredrain, execStatePredrain, andThen_ite]
  rfl

theorem execStateScan_hostBlind : HostBlind execStateScan := fun r c s => by
  unfold execStateScan
  rw [show (s.hostMark r c).txByte (s.hostMark r c).sidx.toNat = s.txByte s.sidx.toNat from rfl]
  cases s.txByte s.sidx.toNat with
  | none => rfl
  | some b =>
    simp only [andThen_ite]
    rfl

theorem execStateTxsend_hostBlind : HostBlind execStateTxsend := fun r c s => by
  rw [execStateTxsend, execStateTxsend, andThen_ite]
  rfl

theorem execStateTxflush_hostBlind : HostBlind execStateTxflush := fun r c s => by
  rw [execStateTxflush, execStateTxflush, andThen_ite]
  rfl

theorem execStatePostdrain_hostBlind : HostBlind execStatePostdrain := fun r c s => by
  rw [execStatePostdrain, execStatePostdrain, andThen_ite]
  rfl

theorem classify_hostBlind : HostBlind classify := fun r c s => by
  unfold classify
  rw [show frameClass (s.hostMark r c).op (s.hostMark r c).hdr.cmdType (s.hostMark r c).hdr.cmdId =
    frameClass s.op s.hdr.cmdType s.hdr.cmdId from rfl]
  split <;> rfl

theorem finishRx_hostBlind (o : RxOutcome) : HostBlind (finishRx o) := fun r c s => by
  cases o with
  | complete => exact classify_hostBlind r c { s with state := phasePostdrain, notify := s.hdr.isNotification }
  | timeout => rfl
  | incomplete => rfl

theorem State.tick_hostMark (s : State) : (s.hostMark r c).tick = s.tick.hostMark r c := by
  rw [State.tick_eq, State.tick_eq]
  rfl

theorem closeByte_hostBlind (b : Byte) : HostBlind (closeByte b) := fun r c s => by
  have hgo := State.tick_hostMark (r := r) (c := c) { s with hidx := sat16Succ s.hidx }
  have hstop := finishRx_hostBlind .incomplete r c { s with hidx := sat16Succ s.hidx }
  have hend := finishRx_hostBlind .complete r c s
  simp only [closeByte, andThen_ite, andThen_next, ← hgo, ← hstop, ← hend]
  rfl

/-- Resynchronisation and payload capture before the marks are the same as after them (R94, R95). -/
theorem State.capturePayload_hostMark (s : State) (b : Byte) :
    ((s.hostMark r c).resync b).capturePayload b =
      ((s.resync b).capturePayload b).map (State.hostMark r c) := by
  simp only [State.capturePayload, State.resync_eq]
  simp only [apply_ite (Option.map (State.hostMark r c)), Option.map_some, Option.map_none]
  rfl

theorem State.captureHeader_latchLength_hostMark (s : State) (b : Byte) :
    ((s.hostMark r c).captureHeader b).latchLength = ((s.captureHeader b).latchLength).hostMark r c := by
  simp only [State.latchLength_eq, State.captureHeader_eq]
  rfl

theorem processByte_hostBlind (b : Byte) : HostBlind (processByte b) := fun r c s => by
  unfold processByte
  rw [State.capturePayload_hostMark]
  cases (s.resync b).capturePayload b with
  | none => rfl
  | some t =>
    simp only [Option.map_some, State.captureHeader_latchLength_hostMark]
    exact closeByte_hostBlind b r c _

theorem execStateRxwait_hostBlind : HostBlind execStateRxwait := fun r c s => by
  have hlate := finishRx_hostBlind .timeout r c s
  have hbyte := processByte_hostBlind s.inp.rxData r c s.pop
  have hidle := State.tick_hostMark (r := r) (c := c) s
  simp only [execStateRxwait, andThen_ite, andThen_next, ← hlate, ← hbyte, ← hidle]
  rfl

/-- No row of a sequencer code reads or writes what a host access of the same step marks (R83). -/
theorem phaseCode_hostBlind {i : Instr} (hi : i.format = .phaseCode) : HostBlind (exec i) := by
  cases i with
  | stateIdle => exact fun _ _ _ => rfl
  | statePredrain => exact execStatePredrain_hostBlind
  | stateScan => exact execStateScan_hostBlind
  | stateTxsend => exact execStateTxsend_hostBlind
  | stateTxflush => exact execStateTxflush_hostBlind
  | stateRxwait => exact execStateRxwait_hostBlind
  | statePostdrain => exact execStatePostdrain_hostBlind
  | stateUnused7 => exact fun _ _ _ => rfl
  | _ => cases hi

/-- Settles O7: a read marks only `bus_rdata`, with a byte of the state at the start of the step. -/
theorem readLeavesPhaseRule : Obligations.ReadLeavesPhaseRule := by
  intro s addr i hi
  simp only [State.driveRdata_eq_hostMark]
  exact phaseCode_hostBlind hi (fun _ => some (s.memRead addr)) id s

end Sys2Proof.Machine
end

section
/-! Host writes in IDLE: where a command byte goes, what the window shows of it (R44, R45, R79), and what a step
without a command leaves unchanged (R57, R82). -/

namespace Sys2Proof.Machine

variable {s t : State}

theorem execWrTxbuf_of_idle (hs : s.state = phaseIdle) (k v : Byte) :
    exec (.wrTxbuf k v) s = .next { s with txbuf := s.txbuf.set k.toNat v } := if_pos hs

/-- A change of `TXBUF` shows only at the addresses of the bytes that it changes (R44). -/
theorem State.memRead_of_txbuf {m : Memory} {a : Addr} (h : ∀ k, a.toNat = 0x100 + k → m.get k = s.txByte k) :
    { s with txbuf := m }.memRead a = s.memRead a := by
  by_cases hlo : a.toNat < 0x100
  · rw [State.memRead_register _ hlo, State.memRead_register _ hlo]
    rfl
  · rw [State.memRead, State.memRead, if_neg hlo, if_neg hlo, ← h (a.toNat - 0x100) (by omega)]
    rfl

/-- Settles O19: the written byte is in `TXBUF` at its index, and every other index is as before. -/
theorem commandByteReadsBack : Obligations.CommandByteReadsBack := by
  intro s t k v hs ht a
  rw [execWrTxbuf_of_idle hs] at ht
  cases ht
  split
  next ha =>
    obtain rfl : BitVec.ofNat 17 (0x100 + k.toNat) = a := by rw [← ha, BitVec.ofNat_toNat, BitVec.setWidth_eq]
    rw [State.memRead_txbuf _ k.isLt, State.txByte, Memory.get_set_same, State.bufferRead_some]
  next ha =>
    exact State.memRead_of_txbuf fun j hj => Memory.get_set_of_ne _ v (by omega)

/-- In IDLE an access that is no write to CMD drives `bus_rdata`, writes the `TXBUF` byte it addresses, or does
nothing (R74, R79, R81). -/
theorem hostAccess_of_no_command {p : Pins} (hs : s.state = phaseIdle)
    (hp : ¬ (p.busEn = true ∧ p.busWe = true ∧ p.busAddr = 0)) (h : hostAccess p s = .next t) :
    (∃ b, t = s.driveRdata b) ∨
    (∃ k v, (p.busEn = true ∧ p.busWe = true ∧ p.busAddr.toNat = 0x100 + k) ∧
      t = { s with txbuf := s.txbuf.set k v }) ∨
    t = s := by
  unfold hostAccess at h
  split at h
  next hen =>
    rw [pinsBusWord, decodeBusWord_makeBusWord] at h
    split_ifs at h with hrd h0 h1 h2 htx
    · cases h
      exact .inl ⟨_, rfl⟩
    · exact absurd ⟨hen, by simpa using hrd, h0⟩ hp
    · exact absurd ⟨hen, by simpa using hrd, h0⟩ hp
    · exact absurd ⟨hen, by simpa using hrd, h0⟩ hp
    · rw [execWrTxbuf_of_idle hs] at h
      cases h
      refine .inr (.inl ⟨_, _, ⟨hen, by simpa using hrd, ?_⟩, rfl⟩)
      rw [BitVec.toNat_ofNat]
      omega
    · cases h
      exact .inr (.inr rfl)
  next =>
    cases h
    exact .inr (.inr rfl)

/-- Settles O52: in IDLE the step is the host access alone, on ports that drive nothing yet. -/
theorem idleStateIsStable : Obligations.IdleStateIsStable := by
  intro s t hs hr hp h
  rcases hostAccess_of_no_command (s := s.sample s.nextPins) hs hp (hostAccess_of_step hr hs h) with
    ⟨b, rfl⟩ | ⟨k, v, hk, rfl⟩ | rfl
  · exact ⟨rfl, rfl, rfl, fun _ _ => rfl⟩
  · refine ⟨rfl, rfl, rfl, fun j hj => Memory.get_set_of_ne _ _ ?_⟩
    rintro rfl
    exact hj hk
  · exact ⟨rfl, rfl, rfl, fun _ _ => rfl⟩

end Sys2Proof.Machine
end

section
/-! The transmission of an EXECUTE: the command frame in `TXBUF` (R63, R85), what the rows of a busy step push of it
(R84 to R101), and a run that stays busy (R88). -/

namespace Sys2Proof.Machine

variable {s t : State} {f : List Byte} {n k : Nat}

/-! ## The command frame -/

/-- A frame starts with the sentinel and ends there, or with another byte and goes on at the next index (R85). -/
theorem State.frameFrom_cases (h : s.frameFrom (n + 1) k = some f) :
    (s.txByte k = some endByte ∧ f = [endByte]) ∨
    ∃ b g, b ≠ endByte ∧ s.txByte k = some b ∧ s.frameFrom n (k + 1) = some g ∧ f = b :: g := by
  unfold State.frameFrom at h
  split at h
  next => cases h
  next b hb =>
    split at h
    next hend =>
      cases h
      exact .inl ⟨hb.trans (congrArg some hend), by rw [hend]⟩
    next hne =>
      obtain ⟨g, hg, rfl⟩ := Option.map_eq_some_iff.1 h
      exact .inr ⟨b, g, hne, hb, hg, rfl⟩

/-- The bytes of a frame are those of `TXBUF`, in order (R63). -/
theorem State.frameFrom_getElem? (h : s.frameFrom n k = some f) {i : Nat} (hi : i < f.length) :
    s.txByte (k + i) = f[i]? := by
  induction n generalizing k f i with
  | zero => cases h
  | succ n ih =>
    rcases State.frameFrom_cases h with ⟨hb, rfl⟩ | ⟨b, g, -, hb, hg, rfl⟩
    · obtain rfl : i = 0 := by simpa using hi
      exact hb
    · cases i with
      | zero => exact hb
      | succ i =>
        rw [List.getElem?_cons_succ, ← ih hg (by simpa using hi), Nat.add_right_comm, Nat.add_assoc]

/-- A frame ends at the first 0xFD from its start on (R63, R85). -/
theorem State.frameFrom_length {e : Nat} (h : s.frameFrom n k = some f) (hk : k ≤ e)
    (hend : s.txByte e = some endByte)
    (hfirst : ∀ j, k ≤ j → j < e → ∃ b, s.txByte j = some b ∧ b ≠ endByte) : k + f.length = e + 1 := by
  induction n generalizing k f with
  | zero => cases h
  | succ n ih =>
    rcases State.frameFrom_cases h with ⟨hb, rfl⟩ | ⟨b, g, hne, hb, hg, rfl⟩
    · have hke : k = e := by
        by_contra hke
        obtain ⟨b, hb', hne⟩ := hfirst k le_rfl (by omega)
        exact hne (Option.some.inj (hb'.symm.trans hb))
      rw [hke, List.length_singleton]
    · have hke : k ≠ e := by
        rintro rfl
        exact hne (Option.some.inj (hb.symm.trans hend))
      rw [List.length_cons, ← ih hg (by omega) fun j hj => hfirst j (by omega)]
      omega

theorem State.frameFrom_congr (h : t.txbuf = s.txbuf) (n k : Nat) : t.frameFrom n k = s.frameFrom n k := by
  induction n generalizing k with
  | zero => rfl
  | succ n ih => simp only [State.frameFrom, State.txByte, h, ih]

/-- The command frame is that of `TXBUF` (R63). -/
theorem State.commandFrame_congr (h : t.txbuf = s.txbuf) : t.commandFrame = s.commandFrame :=
  State.frameFrom_congr h _ _

/-- `TXLEN` is the length of the command frame from the end of the scan on (R22, R88). -/
theorem State.Inv.commandFrame_length (h : s.Inv) (hs : s.state = phaseTxsend ∨ s.state = phaseTxflush)
    (hf : s.commandFrame = some f) : f.length = s.txlen.toNat := by
  obtain ⟨hpos, hend, hfirst⟩ := h.frame hs
  have hlen := State.frameFrom_length hf (Nat.zero_le _) hend fun j _ => hfirst j
  omega

/-! ## What a phase row pushes -/

/-- The part of a command frame that is pushed when a busy EXECUTE stands in a phase (R84 to R88). -/
def State.transmitted (s : State) (f : List Byte) : List Byte :=
  if s.state = phasePredrain ∨ s.state = phaseScan then []
  else if s.state = phaseTxsend then f.take s.tidx.toNat
  else f

theorem State.transmitted_before (hs : s.state = phasePredrain ∨ s.state = phaseScan) : s.transmitted f = [] :=
  if_pos hs

theorem State.transmitted_txsend (hs : s.state = phaseTxsend) : s.transmitted f = f.take s.tidx.toNat := by
  simp [State.transmitted, hs]

theorem State.transmitted_after
    (hs : s.state = phaseTxflush ∨ s.state = phaseRxwait ∨ s.state = phasePostdrain) : s.transmitted f = f := by
  rcases hs with hs | hs | hs <;> simp [State.transmitted, hs]

/-- A step from `s` to `t` pushes the next bytes of the frame `f`, none or more, and no others (R86, R88). -/
def Transmits (f : List Byte) (s t : State) : Prop :=
  ∃ bs, t.sent = s.sent ++ bs ∧ t.transmitted f = s.transmitted f ++ bs

/-- A row that pushes nothing keeps to the frame when its two phases have the same part of it behind them. -/
theorem Transmits.of_sent_eq (hsent : t.sent = s.sent) (htr : t.transmitted f = s.transmitted f) :
    Transmits f s t := ⟨[], by simpa using hsent, by simpa using htr⟩

/-- What the rules of RXWAIT leave of the ports and of the records of pushed and popped bytes, and where they lead
(R89 to R107). -/
structure ReceiveFrame (s t : State) : Prop where
  out : t.out = s.out
  sent : t.sent = s.sent
  taken : t.taken = s.taken
  state : t.state = s.state ∨ t.state = phasePostdrain

theorem finishRx_receiveFrame {o : RxOutcome} (h : finishRx o s = .next t) : ReceiveFrame s t := by
  obtain ⟨c, k, n, f, e, hx⟩ := finishRx_cases o s
  obtain rfl := Host.Outcome.next.inj (hx.symm.trans h)
  exact ⟨rfl, rfl, rfl, .inr rfl⟩

theorem State.tick_receiveFrame (s : State) : ReceiveFrame s s.tick := by
  rw [State.tick_eq]
  exact ⟨rfl, rfl, rfl, .inl rfl⟩

theorem closeByte_receiveFrame {b : Byte} (h : closeByte b s = .next t) : ReceiveFrame s t := by
  rcases closeByte_cases b s with ⟨-, -, hx⟩ | ⟨-, -, hx⟩ | ⟨-, -, hx⟩ <;> rw [hx] at h
  · exact finishRx_receiveFrame h
  · exact { finishRx_receiveFrame h with }
  · cases h
    exact { State.tick_receiveFrame { s with hidx := sat16Succ s.hidx } with }

theorem processByte_receiveFrame {b : Byte} (h : processByte b s = .next t) : ReceiveFrame s t := by
  unfold processByte at h
  split at h
  next => cases h
  next u hu =>
    have hf := closeByte_receiveFrame h
    rw [State.latchLength_eq, State.captureHeader_eq] at hf
    rcases State.capturePayload_cases hu with ⟨-, -, rfl⟩ | ⟨-, rfl⟩ <;> rw [State.resync_eq] at hf <;>
      exact { hf with }

/-- RXWAIT pushes nothing, and stays or enters POSTDRAIN (R89). -/
theorem execStateRxwait_sent_state (h : execStateRxwait s = .next t) :
    t.sent = s.sent ∧ (t.state = s.state ∨ t.state = phasePostdrain) := by
  have hframe : ReceiveFrame s t ∨ ReceiveFrame s.pop t := by
    unfold execStateRxwait at h
    split at h
    · exact .inl (finishRx_receiveFrame h)
    · split at h
      · exact .inr (processByte_receiveFrame h)
      · cases h
        exact .inl s.tick_receiveFrame
  rcases hframe with hf | hf <;> exact ⟨hf.sent, hf.state⟩

theorem execStatePredrain_transmits (hs : s.state = phasePredrain) (h : execStatePredrain s = .next t) :
    Transmits f s t := by
  have hpre : s.transmitted f = [] := State.transmitted_before (.inl hs)
  rcases execStatePredrain_cases s with ⟨-, hx⟩ | ⟨-, hx⟩ <;>
    obtain rfl := Host.Outcome.next.inj (hx.symm.trans h)
  · exact .of_sent_eq rfl rfl
  · exact .of_sent_eq rfl hpre.symm

theorem execStateScan_transmits (hs : s.state = phaseScan) (h : execStateScan s = .next t)
    (ht : t.state ≠ phaseIdle) : Transmits f s t := by
  have hpre : s.transmitted f = [] := State.transmitted_before (.inr hs)
  cases hb : s.txByte s.sidx.toNat with
  | none => simp [execStateScan_of_unwritten hb] at h
  | some b =>
    rcases execStateScan_cases hb with hx | ⟨-, hx⟩ | hx <;> obtain rfl := Host.Outcome.next.inj (hx.symm.trans h)
    · exact .of_sent_eq rfl hpre.symm
    · exact absurd s.badCommand_state ht
    · exact .of_sent_eq rfl rfl

/-- TXSEND pushes the frame byte at `TIDX`, and leaves for TXFLUSH with the last one (R86). -/
theorem execStateTxsend_transmits (hinv : s.Inv) (hf : s.commandFrame = some f) (hs : s.state = phaseTxsend)
    (h : execStateTxsend s = .next t) : Transmits f s t := by
  have hlen : f.length = s.txlen.toNat := hinv.commandFrame_length (.inl hs) hf
  have hlt : s.tidx.toNat < f.length := hlen ▸ hinv.sendIndex hs
  have hsucc : (s.tidx + 1).toNat = s.tidx.toNat + 1 := toNat_succ_of_lt (hinv.sendIndex hs) s.txlen.isLt
  have hbyte : s.txByte s.tidx.toNat = some f[s.tidx.toNat] := by
    have hget := State.frameFrom_getElem? hf hlt
    rwa [Nat.zero_add, List.getElem?_eq_getElem hlt] at hget
  cases hr : s.inp.txReady with
  | false =>
    obtain rfl := Host.Outcome.next.inj ((execStateTxsend_of_not_ready hr).symm.trans h)
    exact .of_sent_eq rfl rfl
  | true =>
    obtain rfl := Host.Outcome.next.inj ((execStateTxsend_of_ready hr hbyte).symm.trans h)
    refine ⟨[f[s.tidx.toNat]], rfl, ?_⟩
    rw [State.transmitted_txsend hs, List.take_append_getElem hlt]
    by_cases hlast : s.tidx.toNat + 1 = s.txlen.toNat
    · rw [State.transmitted_after (.inl (if_pos hlast)), hlast, ← hlen, List.take_length]
    · rw [State.transmitted_txsend ((if_neg hlast).trans hs), hsucc]

theorem execStateTxflush_transmits (hs : s.state = phaseTxflush) (h : execStateTxflush s = .next t) :
    Transmits f s t := by
  have hall : s.transmitted f = f := State.transmitted_after (.inl hs)
  rcases execStateTxflush_cases s with hx | hx <;> obtain rfl := Host.Outcome.next.inj (hx.symm.trans h)
  · exact .of_sent_eq rfl hall.symm
  · exact .of_sent_eq rfl rfl

theorem execStateRxwait_transmits (hs : s.state = phaseRxwait) (h : execStateRxwait s = .next t) :
    Transmits f s t := by
  obtain ⟨hsent, hstate⟩ := execStateRxwait_sent_state h
  rw [hs] at hstate
  exact .of_sent_eq hsent
    ((State.transmitted_after (.inr hstate)).trans (State.transmitted_after (.inr (.inl hs))).symm)

theorem execStatePostdrain_transmits (h : execStatePostdrain s = .next t) (ht : t.state ≠ phaseIdle) :
    Transmits f s t := by
  rcases execStatePostdrain_cases s with ⟨-, hx⟩ | ⟨-, hx⟩ <;>
    obtain rfl := Host.Outcome.next.inj (hx.symm.trans h)
  · exact .of_sent_eq rfl rfl
  · exact absurd rfl ht

/-- Every row of a busy phase that does not end the transaction pushes the next bytes of the command frame, none or
more (R84 to R101). -/
theorem phaseRow_transmits (hinv : s.Inv) (hf : s.commandFrame = some f)
    (h : exec (decodePhase s.state) s = .next t) (hs : s.state ≠ phaseIdle) (ht : t.state ≠ phaseIdle) :
    Transmits f s t := by
  unfold decodePhase at h
  split_ifs at h with h0 h1 h2 h3 h4 h5 h6
  · exact absurd h0 hs
  · exact execStatePredrain_transmits h1 h
  · exact execStateScan_transmits h2 h ht
  · exact execStateTxsend_transmits hinv hf h3 h
  · exact execStateTxflush_transmits h4 h
  · exact execStateRxwait_transmits h5 h
  · exact execStatePostdrain_transmits h ht
  · cases h

/-! ## A run that stays busy -/

theorem State.resetStep_state (s : State) (p : Pins) : (s.resetStep p).state = phaseIdle := by
  unfold State.resetStep
  split <;> rfl

/-- A busy state of a run that began at `s`, with the command frame `f` and the part of it behind this phase pushed
since then. -/
structure Transmitting (s : State) (f : List Byte) (t : State) : Prop where
  inv : t.Inv
  busy : t.state ≠ phaseIdle
  frame : t.commandFrame = some f
  sent : t.sent = s.sent ++ t.transmitted f

/-- A step that stays busy goes on with the transmission: it is no reset, and its host access changes neither
`TXBUF` nor what is pushed (R58, R83). -/
theorem Transmitting.step {u : State} (h : Transmitting s f t) (hu : step t = .next u) (hbusy : u.state ≠ phaseIdle) :
    Transmitting s f u := by
  have hr : t.nextPins.rst = false := by
    by_contra hr
    obtain rfl := Host.Outcome.next.inj ((step_of_reset (by simpa using hr)).symm.trans hu)
    exact hbusy (t.resetStep_state _)
  obtain ⟨hc, hw⟩ := inputs_of_step_eq_next hr hu
  obtain ⟨o, c, hx⟩ := step_of_busy hr hc hw h.busy
  have htxbuf : u.txbuf = t.txbuf := busyStepsKeepCommandBuffer t u h.busy hr hu
  have hview : (t.busyView o c).Inv := { h.inv with }
  have hframe : (t.busyView o c).commandFrame = t.commandFrame := State.commandFrame_congr rfl
  obtain ⟨bs, hsent, htr⟩ : Transmits f (t.busyView o c) u :=
    phaseRow_transmits hview (hframe.trans h.frame) (hx.symm.trans hu) h.busy hbusy
  exact {
    inv := stepKeepsInvariants _ _ h.inv hu
    busy := hbusy
    frame := (State.commandFrame_congr htxbuf).trans h.frame
    sent := by
      calc u.sent = t.sent ++ bs := hsent
        _ = s.sent ++ (t.transmitted f ++ bs) := by rw [h.sent, List.append_assoc]
        _ = s.sent ++ u.transmitted f := congrArg (s.sent ++ ·) htr.symm }

/-- What every step that stays busy keeps holds at the end of a run that stays busy. -/
theorem run_keeps_while_busy {P : State → Prop}
    (hstep : ∀ u v, P u → step u = .next v → v.state ≠ phaseIdle → P v) (hs : P s)
    (hrun : Sys2Proof.core.run n s = .next t)
    (hbusy : ∀ m ≤ n, ∀ u, Sys2Proof.core.run m s = .next u → u.state ≠ phaseIdle) : P t := by
  induction n generalizing s with
  | zero =>
    obtain rfl : s = t := Host.Outcome.next.inj hrun
    exact hs
  | succ n ih =>
    rw [core_run_succ] at hrun
    obtain ⟨v, hv, hrest⟩ := andThen_eq_next.1 hrun
    have hlater : ∀ m ≤ n, ∀ u, Sys2Proof.core.run m v = .next u → u.state ≠ phaseIdle := fun m hm u hu =>
      hbusy (m + 1) (by omega) u (by rw [core_run_succ, hv]; exact hu)
    exact ih (hstep s v hs hv (hlater 0 (Nat.zero_le _) v rfl)) hrest hlater

/-- Settles O47: PREDRAIN has pushed nothing of the frame, and every busy step goes on with the transmission. -/
theorem executeTransmitsItsFrame : Obligations.ExecuteTransmitsItsFrame := by
  intro s f hinv hs hf n t hrun hbusy
  have hstart : Transmitting s f s := {
    inv := hinv
    busy := by simp [hs]
    frame := hf
    sent := by simp [State.transmitted_before (.inl hs)] }
  have hend : Transmitting s f t := run_keeps_while_busy (fun _ _ h => h.step) hstart hrun hbusy
  refine ⟨fun h => ?_, fun h => ?_, fun h => ?_⟩
  · simpa [State.transmitted_before h] using hend.sent
  · simpa [State.transmitted_txsend h] using hend.sent
  · simpa [State.transmitted_after h] using hend.sent

end Sys2Proof.Machine
end

section
/-! Words and rows the other way round: every bus word and every frame has its row (R67, R68, R69). Then the rules of
RXWAIT for a byte that is not captured: the length byte of the header (R97) and the terminator, whose frame runs the
row that its class word decodes to (R98, R107). -/

namespace Sys2Proof

/-! ## Every bus word has its row -/

/-- A bus word is made of its three fields (R67). -/
theorem makeBusWord_of_fields (w : BitVec 26) :
    makeBusWord (busWordWe w) (busWordAddr w) (busWordData w) = w := by
  have hw := w.isLt
  have hwe : (busWordWe w).toNat = w.toNat / 2 ^ 25 := by
    by_cases h : w.toNat / 2 ^ 25 = 1
    · rw [busWordWe, decide_eq_true h, Bool.toNat_true, h]
    · rw [busWordWe, decide_eq_false h, Bool.toNat_false]
      omega
  apply BitVec.eq_of_toNat_eq
  simp only [Laws.makeBusWord_toNat, hwe, busWordAddr, busWordData, BitVec.toNat_ofNat]
  omega

/-- An address in the `TXBUF` region is the base of the region and the index that its low byte gives (R68). -/
theorem txbufAddr_of_index {addr : Addr} (h : addr.toNat / 2 ^ 8 = 0x001) :
    BitVec.ofNat 17 (0x100 + (BitVec.ofNat 8 addr.toNat).toNat) = addr := by
  apply BitVec.eq_of_toNat_eq
  simp only [BitVec.toNat_ofNat]
  omega

/-- The row of an access carries the access itself, with DATA cleared in a read (R67, R68). -/
theorem decodeBusWord_makeBusWord_row (we : Bool) (addr : Addr) (data : Byte) :
    (decodeBusWord (makeBusWord we addr data)).format = .busWord ∧
      (decodeBusWord (makeBusWord we addr data)).WellFormed ∧
      encodeNumber (decodeBusWord (makeBusWord we addr data)) =
        (makeBusWord we addr (if we then data else 0)).toNat := by
  rw [decodeBusWord_makeBusWord]
  cases we with
  | false => exact ⟨rfl, rfl, rfl⟩
  | true =>
    rw [if_neg (by simp), if_pos rfl]
    split_ifs with haddr hexecute hpoll htxbuf
    · exact ⟨rfl, rfl, by rw [haddr, hexecute]; rfl⟩
    · exact ⟨rfl, rfl, by rw [haddr, hpoll]; rfl⟩
    · exact ⟨rfl, wellFormed_wrCmdRsvd.2 ⟨hexecute, hpoll⟩, by rw [haddr]; rfl⟩
    · exact ⟨rfl, rfl, by rw [encodeNumber, txbufAddr_of_index htxbuf]⟩
    · exact ⟨rfl, wellFormed_wrIgnored.2 ⟨haddr, htxbuf⟩, rfl⟩

/-- Clearing DATA in a read clears the low byte of the word, and a write keeps it (R67). -/
theorem makeBusWord_clear_read (w : BitVec 26) :
    (makeBusWord (busWordWe w) (busWordAddr w) (if busWordWe w then busWordData w else 0)).toNat =
      if busWordWe w then w.toNat else w.toNat / 2 ^ 8 * 2 ^ 8 := by
  cases hwe : busWordWe w with
  | false =>
    have hw := congrArg BitVec.toNat (makeBusWord_of_fields w)
    rw [hwe, Laws.makeBusWord_toNat, Bool.toNat_false, Nat.zero_mul, Nat.zero_add] at hw
    have haddr : (busWordAddr w).toNat = w.toNat / 2 ^ 8 := by
      rw [← hw, Nat.mul_comm, Nat.mul_add_div (by decide), Nat.div_eq_of_lt (busWordData w).isLt, Nat.add_zero]
    rw [if_neg (by simp), if_neg (by simp), Laws.makeBusWord_toNat, haddr]
    simp
  | true =>
    rw [if_pos rfl, if_pos rfl, ← hwe, makeBusWord_of_fields]

/-- Settles O2: a bus word is the access of its fields, whose row carries it. -/
theorem everyBusWordHasItsRow : Obligations.EveryBusWordHasItsRow := by
  intro w
  have hrow := decodeBusWord_makeBusWord_row (busWordWe w) (busWordAddr w) (busWordData w)
  rwa [makeBusWord_of_fields, makeBusWord_clear_read] at hrow

/-! ## Every frame has its class -/

/-- Settles O3: the branches of R69 are tried in order, and the last of each operation takes what is left. -/
theorem everyFrameHasItsClass : Obligations.EveryFrameHasItsClass := by
  rintro op cmdType id (rfl | rfl)
  · rw [frameClass, if_pos rfl]
    split_ifs with hnack hnotify
    · exact ⟨_, rfl, rfl, rfl, by rw [hnack.1, hnack.2]; rfl⟩
    · exact ⟨_, rfl, rfl, rfl, by rw [hnotify]; rfl⟩
    · exact ⟨_, rfl, rfl, wellFormed_rxclassExecuteReply.2 ⟨hnotify, hnack⟩, rfl⟩
  · rw [frameClass, if_neg (by decide), if_pos rfl]
    split_ifs with hnotify
    · exact ⟨_, rfl, rfl, rfl, by rw [hnotify]; rfl⟩
    · exact ⟨_, rfl, rfl, wellFormed_rxclassPollOther.2 hnotify, rfl⟩

theorem frameClass_eq_none {op : BitVec 2} (hop : ¬ (op = Machine.opExecute ∨ op = Machine.opPoll))
    (cmdType id : Byte) : frameClass op cmdType id = none := by
  obtain ⟨hexecute, hpoll⟩ := not_or.1 hop
  rw [frameClass, if_neg hexecute, if_neg hpoll]

/-- The id and the type of a frame, in this order, are the bytes of its class word (log 13). -/
theorem decode_classBytes (op : BitVec 2) (cmdType id : Byte) :
    decode (.frameClass op) [id, cmdType] = decodeNumber (.frameClass op) (makeClassWord cmdType id) := by
  have hword : numberOfBytes [id, cmdType] = makeClassWord cmdType id := by
    simp only [numberOfBytes, makeClassWord]
    omega
  exact (if_pos rfl).trans (congrArg _ hword)

/-- A row read from the id and the type of a frame is that of the frame's class (R69). -/
theorem frameClass_of_decode {op : BitVec 2} {cmdType id : Byte} {i : Instr}
    (h : decode (.frameClass op) [id, cmdType] = .ok i) :
    ∃ c, frameClass op cmdType id = some c ∧ c.toInstr = i := by
  rw [decode_classBytes] at h
  by_cases hop : op = Machine.opExecute ∨ op = Machine.opPoll
  · obtain ⟨c, hc, -⟩ := everyFrameHasItsClass op cmdType id hop
    rw [decodeNumber_makeClassWord hc] at h
    exact ⟨c, hc, Except.ok.inj h⟩
  · simp [decodeNumber, frameClass_eq_none hop] at h

namespace Machine

variable {s : State} {b : Byte}

/-! ## A byte that is not captured -/

theorem State.resync_of_ne (hb : b ≠ startByte) : s.resync b = s := if_neg hb

theorem State.capturePayload_of_captured (h : s.dlen.toNat ≤ s.pcnt.toNat) : s.capturePayload b = some s :=
  if_neg fun hc => absurd hc.2 h.not_gt

/-- Before the deadline a presented byte that neither restarts the frame nor is captured goes through the header rules
and the end of its processing alone (R89, R93). -/
theorem execStateRxwait_of_uncaptured (he : s.elapsed.toNat < timeoutMs) (hv : s.inp.rxValid = true)
    (hd : s.inp.rxData = b) (hb : b ≠ startByte) (hc : s.dlen.toNat ≤ s.pcnt.toNat) :
    execStateRxwait s = closeByte b (s.pop.captureHeader b).latchLength := by
  have hcapture : s.pop.capturePayload b = some s.pop := State.capturePayload_of_captured hc
  rw [execStateRxwait, if_neg he.not_ge, if_pos hv, hd, processByte, State.resync_of_ne hb, hcapture]

theorem closeByte_of_terminator (h : s.dlen.toNat + 5 ≤ s.hidx.toNat) :
    closeByte endByte s = finishRx .complete s :=
  if_pos ((terminates_iff ..).2 ⟨h, rfl⟩)

theorem closeByte_of_ongoing (h : ¬ (s.dlen.toNat + 5 ≤ s.hidx.toNat ∧ b = endByte))
    (hmax : s.pcnt.toNat < s.maxPayload.toNat) :
    closeByte b s = .next { s with hidx := sat16Succ s.hidx }.tick :=
  (if_neg (mt (terminates_iff ..).1 h)).trans (if_neg hmax.not_ge)

/-! ## The length byte -/

/-- The counter saturates only at its top (R11). -/
theorem sat16Succ_of_lt {v : Half} (h : v.toNat < 0xFFFF) : sat16Succ v = BitVec.ofNat 16 (v.toNat + 1) := by
  rw [sat16Succ, min_eq_left h]

/-- At `HIDX = 5` the header rules store the byte as the length low byte and latch the length it makes (R96, R97). -/
theorem State.captureHeader_latchLength_at_five (h : s.hidx.toNat = 5) :
    (s.captureHeader b).latchLength =
      { s with hdr := { s.hdr with lenLo := b }, dlen := joinBytes s.hdr.lenHi b } := by
  simp only [State.latchLength_eq, State.captureHeader_eq, h]
  rfl

/-- A 0xFD as the length low byte makes a length too long for the frame to end there (R98). -/
theorem not_terminator_of_length_byte {hidx : Nat} (h : hidx = 5) (hi : Byte) :
    ¬ ((joinBytes hi b).toNat + 5 ≤ hidx ∧ b = endByte) := by
  rintro ⟨hle, rfl⟩
  have hlow : endByte.toNat = 0xFD := rfl
  rw [joinBytes_toNat] at hle
  omega

/-- Settles O31: the length byte is stored and latched, and it ends reception neither as a terminator nor by the
ceiling. -/
theorem lengthLatched : Obligations.LengthLatched := by
  intro s b he hv hd hb hidx hc hmax
  have hlatch := State.captureHeader_latchLength_at_five (s := s.pop) (b := b) hidx
  have hclose : closeByte b (s.pop.captureHeader b).latchLength = _ :=
    closeByte_of_ongoing (by rw [hlatch]; exact not_terminator_of_length_byte hidx s.hdr.lenHi)
      (by rw [hlatch]; exact hmax)
  have hidx5 : s.hidx = 5 := BitVec.eq_of_toNat_eq hidx
  have helapsed := sat16Succ_of_lt (v := s.elapsed) (by omega)
  refine (execStateRxwait_of_uncaptured he hv hd hb hc).trans (hclose.trans ?_)
  simp only [State.tick_eq, hlatch, State.pop_hidx, State.pop_elapsed, State.pop_inp, hidx5, helapsed]
  rfl

/-! ## The frame classes and the terminator -/

/-- Settles O42, by the meanings of the two rows (R65, R111). -/
theorem pollClasses : Obligations.PollClasses := fun _ _ _ => ⟨rfl, rfl⟩

/-- Past the header, the header rules do nothing (R96, R97). -/
theorem State.captureHeader_latchLength_of_past (h : 6 ≤ s.hidx.toNat) :
    (s.captureHeader b).latchLength = s := by
  rw [State.captureHeader, if_neg (by omega), State.latchLength, if_neg (by omega)]

/-- Settles O43: the terminator completes the frame, whose classification is the row of its class. -/
theorem completionRunsDecodedClass : Obligations.CompletionRunsDecodedClass := by
  intro s i he hv hd hpast hend hc hi
  obtain ⟨c, hclass, rfl⟩ := frameClass_of_decode hi
  calc exec .stateRxwait s
      = closeByte endByte (s.pop.captureHeader endByte).latchLength :=
        execStateRxwait_of_uncaptured he hv hd (by decide) hc
    _ = closeByte endByte s.pop := by rw [State.captureHeader_latchLength_of_past (s := s.pop) hpast]
    _ = finishRx .complete s.pop := closeByte_of_terminator hend
    _ = exec c.toInstr { s.pop with state := 6, notify := decide (s.hdr.cmdType = 0x07) } :=
        classify_eq_exec hclass

end Machine
end Sys2Proof
end

section
/-! The host operations as such: a command and a `TXBUF` write in IDLE and while busy (R73 to R80), the read, and the
accesses and the phase that change nothing (R74, R81, R82). -/

namespace Sys2Proof.Machine

variable {s : State}

/-! ## Commands -/

theorem State.command_of_idle (hs : s.state = phaseIdle) (op : BitVec 2) : s.command op = s.accept op := if_pos hs

theorem State.command_of_busy (hs : s.state ≠ phaseIdle) (op : BitVec 2) : s.command op = s.refuseWrite := if_neg hs

/-- Settles O14: a command written in IDLE is accepted, and an accepted EXECUTE enters PREDRAIN. -/
theorem executeAccepted : Obligations.ExecuteAccepted := fun _ hs =>
  congrArg Host.Outcome.next (State.command_of_idle hs opExecute)

/-- Settles O15: a command written in IDLE is accepted, and an accepted POLL enters RXWAIT. -/
theorem pollAccepted : Obligations.PollAccepted := fun _ hs =>
  congrArg Host.Outcome.next (State.command_of_idle hs opPoll)

/-- Settles O17: in IDLE a code that is none of the two commands is refused. -/
theorem reservedCommandRefused : Obligations.ReservedCommandRefused := fun _ _ hs hv =>
  (if_pos hs).trans (if_pos hv)

/-! ## Writes while busy -/

/-- The writes that a busy DPF refuses: every write to CMD and every write to `TXBUF` (R77, R80). -/
theorem exec_of_busy_write {h : Instr} (hs : s.state ≠ phaseIdle)
    (hw : h = .wrCmdExecute ∨ h = .wrCmdPoll ∨ (∃ v, h = .wrCmdRsvd v) ∨ ∃ k v, h = .wrTxbuf k v) :
    exec h s = .next s.refuseWrite := by
  obtain rfl | rfl | ⟨v, rfl⟩ | ⟨k, v, rfl⟩ := hw
  · exact congrArg Host.Outcome.next (State.command_of_busy hs opExecute)
  · exact congrArg Host.Outcome.next (State.command_of_busy hs opPoll)
  · exact if_neg hs
  · exact if_neg hs

/-- Settles O16: a refused write records itself in `CERR` only. -/
theorem busyWritesRefused : Obligations.BusyWritesRefused := fun _ _ hs hw => exec_of_busy_write hs hw

/-- Settles O6: a refused write marks only `CERR`, which no row of a sequencer code reads or writes. -/
theorem refusedWriteLeavesPhaseRule : Obligations.RefusedWriteLeavesPhaseRule := by
  intro s h i hs hw hi
  rw [exec_of_busy_write hs hw, andThen_next, State.refuseWrite_eq_hostMark]
  exact phaseCode_hostBlind hi id (fun _ => true) s

/-! ## Command bytes, reads, and what changes nothing -/

/-- Settles O18: the write puts the byte at its index of `TXBUF`, and every other index is as before. -/
theorem commandByteWritten : Obligations.CommandByteWritten := fun s k v hs =>
  ⟨s.txbuf.set k.toNat v, execWrTxbuf_of_idle hs k v, Memory.get_set_same _ _ _,
    fun _ hj => Memory.get_set_of_ne _ v hj⟩

/-- Settles O12, by the meaning of the row: a read drives `bus_rdata` and writes nothing (R74). -/
theorem readReturnsWindowByte : Obligations.ReadReturnsWindowByte := fun _ _ => rfl

/-- Settles O20, by the meaning of the row (R81). -/
theorem ignoredWriteHasNoEffect : Obligations.IgnoredWriteHasNoEffect := fun _ _ _ => rfl

/-- Settles O21, by the meaning of the row (R82). -/
theorem idleDoesNothing : Obligations.IdleDoesNothing := fun _ => rfl

end Sys2Proof.Machine
end

section
/-! The transmit phases up to reception: the rows of PREDRAIN, SCAN and TXFLUSH (R84, R85, R87), the scan of a whole
command buffer (R85, R148), and a drain of the transport's buffered bytes (R84, R101, R148). -/

namespace Sys2Proof.Machine

variable {s : State}

/-! ## One step of a phase -/

/-- Settles O22: the row tests `rx_valid` alone. -/
theorem predrainStep : Obligations.PredrainStep := fun _ =>
  ⟨fun hv => if_pos hv, fun hv => if_neg (ne_true_of_eq_false hv)⟩

/-- Settles O26: the row tests `tx_idle` alone. -/
theorem txflushStep : Obligations.TxflushStep := fun _ =>
  ⟨fun hi => if_pos hi, fun hi => if_neg (ne_true_of_eq_false hi)⟩

/-- Incrementing a register is incrementing its number, modulo the register's size (R11). -/
theorem add_one_eq_ofNat_succ {w : Nat} (v : BitVec w) : v + 1 = BitVec.ofNat w (v.toNat + 1) := by
  rw [BitVec.ofNat_add, BitVec.ofNat_toNat, BitVec.setWidth_eq]
  rfl

/-- At a byte with a value the scan asks whether it is the sentinel, and then whether it is the last (R85). -/
theorem execStateScan_of_written {b : Byte} (h : s.txByte s.sidx.toNat = some b) :
    execStateScan s =
      if b = endByte then
        .next { s with txlen := BitVec.ofNat 8 (s.sidx.toNat + 1), tidx := 0, state := phaseTxsend }
      else if s.sidx.toNat = 254 then .next s.badCommand
      else .next { s with sidx := BitVec.ofNat 8 (s.sidx.toNat + 1) } := by
  rw [execStateScan, h, add_one_eq_ofNat_succ]
  rfl

/-- Settles O23: a byte with no value stops the scan, and a byte with one takes its branch of the row. -/
theorem scanStep : Obligations.ScanStep := by
  intro s _
  refine ⟨execStateScan_of_unwritten, fun hb => ?_, fun b hb hne hlast => ?_, fun b hb hne hlt => ?_⟩
  · exact (execStateScan_of_written hb).trans (if_pos rfl)
  · exact (execStateScan_of_written hb).trans ((if_neg hne).trans (if_pos hlast))
  · exact (execStateScan_of_written hb).trans ((if_neg hne).trans (if_neg hlt.ne))

/-! ## The scan of a command buffer -/

/-- One more application of a row, made after the others. -/
theorem execTimes_succ (i : Instr) (n : Nat) (s : State) :
    execTimes i (n + 1) s = andThen (execTimes i n s) (exec i) := by
  induction n generalizing s with
  | zero => cases h : exec i s <;> simp [execTimes, h]
  | succ n ih =>
    cases h : exec i s with
    | next u => simpa only [execTimes, h, andThen_next] using ih u
    | fault r => simp [execTimes, h]
    | refused r => simp [execTimes, h]

/-- The state in which the scan examines index `n` (R85). -/
def State.scanAt (s : State) (n : Nat) : State := { s with sidx := BitVec.ofNat 8 n }

theorem State.scanAt_zero (h0 : s.sidx = 0) : s.scanAt 0 = s := by
  cases s
  cases h0
  rfl

/-- The indices that a scan examines fit in `SIDX` (R20). -/
theorem State.scanAt_sidx_toNat (s : State) {n : Nat} (hn : n ≤ 254) : (s.scanAt n).sidx.toNat = n :=
  (BitVec.toNat_ofNat n 8).trans (Nat.mod_eq_of_lt (by omega))

/-- Written bytes that are no sentinel bring the scan to the index after them, one step each (R85). -/
theorem execTimes_scan_passes {n : Nat} (h0 : s.sidx = 0) (hn : n ≤ 254)
    (hb : ∀ k < n, ∃ b, s.txByte k = some b ∧ b ≠ endByte) :
    execTimes .stateScan n s = .next (s.scanAt n) := by
  induction n with
  | zero => rw [State.scanAt_zero h0]; rfl
  | succ n ih =>
    have hidx := s.scanAt_sidx_toNat (n := n) (by omega)
    obtain ⟨b, hbyte, hne⟩ := hb n (by omega)
    obtain ⟨-, -, -, hpass⟩ := scanStep (s.scanAt n) (by omega)
    calc execTimes .stateScan (n + 1) s
        = andThen (execTimes .stateScan n s) (exec .stateScan) := execTimes_succ ..
      _ = exec .stateScan (s.scanAt n) := by
        rw [ih (by omega) fun k hk => hb k (by omega), andThen_next]
      _ = .next { s.scanAt n with sidx := BitVec.ofNat 8 ((s.scanAt n).sidx.toNat + 1) } :=
        hpass b (by rw [hidx]; exact hbyte) hne (by omega)
      _ = .next (s.scanAt (n + 1)) := by rw [hidx]; rfl

/-- Past written bytes that are no sentinel, the scan's next step is that at the index after them. -/
theorem execTimes_scan_succ {n : Nat} (h0 : s.sidx = 0) (hn : n ≤ 254)
    (hb : ∀ k < n, ∃ b, s.txByte k = some b ∧ b ≠ endByte) :
    execTimes .stateScan (n + 1) s = exec .stateScan (s.scanAt n) := by
  rw [execTimes_succ, execTimes_scan_passes h0 hn hb, andThen_next]

/-- Settles O24: the scan passes the bytes before the sentinel, or all but the last index, and then ends there. -/
theorem scanFindsFirstSentinel : Obligations.ScanFindsFirstSentinel := by
  intro s _ h0
  refine ⟨fun j hj hsentinel hbefore => ?_, fun hnone => ?_⟩
  · have hidx := s.scanAt_sidx_toNat hj
    obtain ⟨-, hfound, -, -⟩ := scanStep (s.scanAt j) (by omega)
    rw [execTimes_scan_succ h0 hj hbefore, hfound (by rw [hidx]; exact hsentinel), hidx]
    rfl
  · obtain ⟨b, hlast, hne⟩ := hnone 254 le_rfl
    have hidx := s.scanAt_sidx_toNat (le_refl 254)
    obtain ⟨-, -, hbad, -⟩ := scanStep (s.scanAt 254) (by omega)
    rw [execTimes_scan_succ h0 le_rfl fun k hk => hnone k hk.le, hbad b (by rw [hidx]; exact hlast) hne hidx]
    rfl

/-! ## A drain -/

/-- The row of a drain pops the byte presented, or does `fin` where there is none (R84, R101). -/
def IsDrain (c : BitVec 3) (fin : State → State) : Prop :=
  ∀ u : State, (u.inp.rxValid = true → exec (decodePhase c) u = .next u.pop) ∧
    (u.inp.rxValid = false → exec (decodePhase c) u = .next (fin u))

theorem predrain_isDrain : IsDrain phasePredrain fun u => { u with sidx := 0, state := phaseScan } :=
  predrainStep

theorem postdrain_isDrain : IsDrain phasePostdrain fun u => { u with done := true, state := phaseIdle } := fun _ =>
  ⟨fun hv => if_pos hv, fun hv => if_neg (ne_true_of_eq_false hv)⟩

/-- A run whose first step answers a next state goes on from there. -/
theorem core_run_of_step {s t : State} (h : step s = .next t) (k : Nat) :
    Sys2Proof.core.run (k + 1) s = Sys2Proof.core.run k t := by
  have hstep : andThen (step s) (Sys2Proof.core.run k) = Sys2Proof.core.run k t := by rw [h]; rfl
  exact (core_run_succ k s).trans hstep

theorem receivedBytes_cons_of_valid {p : Pins} (hv : p.rxValid = true) (ps : List Pins) :
    receivedBytes (p :: ps) = p.rxData :: receivedBytes ps := by
  simp [receivedBytes, hv]

/-- What a drain of the bytes of `ps` has in front of it in its last step, which samples `q`: the bytes are taken, and
nothing else has changed but the ports, the step count and the schedule. -/
def State.drained (s : State) (ps : List Pins) (q : Pins) (rest : List Pins) : State :=
  { s with
    inp := q, out := Ports.none, cycle := s.cycle + (ps.length + 1), schedule := rest
    taken := s.taken ++ receivedBytes ps }

/-- Draining after a popped byte takes that byte and then the others. -/
theorem State.drained_popped {p : Pins} (hv : p.rxValid = true) (ps : List Pins) (q : Pins) (rest : List Pins) :
    (s.sample p).pop.drained ps q rest = s.drained (p :: ps) q rest := by
  have hcycle : s.cycle + 1 + (ps.length + 1) = s.cycle + (ps.length + 1 + 1) := by omega
  have htaken : s.taken ++ [p.rxData] ++ receivedBytes ps = s.taken ++ receivedBytes (p :: ps) := by
    rw [receivedBytes_cons_of_valid hv, List.append_assoc, List.singleton_append]
  simp only [State.drained, State.pop_cycle, State.sample_cycle, State.pop_taken, State.sample_taken,
    State.sample_inp, hcycle, htaken, List.length_cons]
  rfl

/-- A drain pops one byte a step for as long as one is presented, and ends in the step after them (R84, R101, R148):
no pop leaves a byte that the transport contract would hold to its port. -/
theorem run_drain {ps : List Pins} {q : Pins} {rest : List Pins} {fin : State → State}
    (hd : IsDrain s.state fin) (hs : s.schedule = ps ++ q :: rest) (hu : Undisturbed (ps ++ [q]))
    (hps : ∀ p ∈ ps, p.rxValid = true) (hq : q.rxValid = false) (hc : contractHolds s s.nextPins = true) :
    Sys2Proof.core.run (ps.length + 1) s = .next (fin (s.drained ps q rest)) := by
  induction ps generalizing s with
  | nil =>
    obtain ⟨hrst, hbus⟩ := hu q (by simp)
    have hnext : s.nextPins = q := by rw [State.nextPins, hs]; rfl
    have hstep : step s = .next (fin (s.sample q)) :=
      (step_undisturbed hs hrst hbus (hnext ▸ hc)).trans ((hd (s.sample q)).2 hq)
    have hlast : s.sample q = s.drained [] q rest := by
      simp [State.sample, State.drained, receivedBytes, hs]
    exact (core_run_of_step hstep 0).trans (hlast ▸ rfl)
  | cons p ps ih =>
    obtain ⟨hrst, hbus⟩ := hu p (by simp)
    have hv : p.rxValid = true := hps p (by simp)
    have hnext : s.nextPins = p := by rw [State.nextPins, hs]; rfl
    have hstep : step s = .next (s.sample p).pop :=
      (step_undisturbed hs hrst hbus (hnext ▸ hc)).trans ((hd (s.sample p)).1 hv)
    have hrest : (s.sample p).pop.schedule = ps ++ q :: rest := by simp [hs]
    have hrun := ih (s := (s.sample p).pop) hd hrest (fun p' hp' => hu p' (List.mem_cons_of_mem p hp'))
      (fun p' hp' => hps p' (List.mem_cons_of_mem p hp')) (contractHolds_of_popped (fun _ => rfl) rfl)
    exact (core_run_of_step hstep (ps.length + 1)).trans (hrun.trans (by rw [State.drained_popped hv]))

/-- Settles O44: both phases are drains, which differ only in how they end. -/
theorem drainTakesEveryBufferedByte : Obligations.DrainTakesEveryBufferedByte := by
  intro s ps q rest hs hu hps hq hc
  refine ⟨fun hphase => ?_, fun hphase => ?_⟩
  · have hrun := run_drain (hphase ▸ predrain_isDrain) hs hu hps hq hc
    exact ⟨_, hrun, rfl, rfl, rfl, rfl, rfl, rfl⟩
  · have hrun := run_drain (hphase ▸ postdrain_isDrain) hs hu hps hq hc
    exact ⟨_, hrun, rfl, rfl, rfl, rfl, rfl, rfl, rfl, rfl, rfl⟩

end Sys2Proof.Machine
end

section
/-! The rows of reception, step by step: RXWAIT in the order of R89, a byte at each place of a frame (R94 to R100), the
end of a frame (R107 to R111), and POSTDRAIN (R101). -/

namespace Sys2Proof.Machine

variable {s : State} {b : Byte}

/-! ## POSTDRAIN, the deadline, and a step without a byte -/

/-- Settles O39: the row of POSTDRAIN is that of a drain. -/
theorem postdrainStep : Obligations.PostdrainStep := postdrain_isDrain

/-- Settles O28: the deadline test is the first of the row's tests. -/
theorem deadlineEndsReception : Obligations.DeadlineEndsReception := fun _ he => if_pos he

/-- Far below the top of `ELAPSED` a strobe counts one (R91). -/
theorem State.tick_of_before_deadline (he : s.elapsed.toNat < timeoutMs) :
    s.tick = { s with
      elapsed := if s.inp.tickMs then BitVec.ofNat 16 (s.elapsed.toNat + 1) else s.elapsed } := by
  rw [State.tick_eq, sat16Succ_of_lt (he.trans (by decide))]

theorem execStateRxwait_of_no_byte (he : s.elapsed.toNat < timeoutMs) (hv : s.inp.rxValid = false) :
    execStateRxwait s = .next s.tick := by
  rw [execStateRxwait, if_neg he.not_ge, if_neg (ne_true_of_eq_false hv)]

/-- Settles O29: without a byte the row is `tick()`. -/
theorem idleReceiveStep : Obligations.IdleReceiveStep := fun _ he hv =>
  (execStateRxwait_of_no_byte he hv).trans (congrArg _ (State.tick_of_before_deadline he))

/-! ## The state at the terminator test -/

/-- The position in the frame of the byte that an RXWAIT step presents: `HIDX` after resynchronisation (R94). -/
def State.headerIndex (s : State) : Nat := if s.inp.rxData = startByte then 0 else s.hidx.toNat

/-- What resynchronisation and the capture rules make of a state with a byte presented: the state that the terminator
test looks at (R94 to R98). -/
def State.byteTaken (s : State) : State :=
  { s.pop with
    hidx := BitVec.ofNat 16 s.headerIndex
    pcnt := BitVec.ofNat 16 (if s.captureIndex < s.dlen.toNat then s.captureIndex + 1 else s.captureIndex)
    rxbuf := if s.captureIndex < s.dlen.toNat then s.rxbuf.set s.captureIndex s.inp.rxData else s.rxbuf
    hdr := if s.headerIndex ≤ 5 then s.hdr.set s.headerIndex s.inp.rxData else s.hdr
    dlen := if s.headerIndex = 5 then joinBytes s.hdr.lenHi s.inp.rxData else s.dlen }

/-- A number that fits in a register is held by it (R8). -/
theorem toNat_ofNat_of_lt {w n : Nat} (h : n < 2 ^ w) : (BitVec.ofNat w n).toNat = n :=
  (BitVec.toNat_ofNat n w).trans (Nat.mod_eq_of_lt h)

theorem State.headerIndex_lt (s : State) : s.headerIndex < 2 ^ 16 := by
  unfold State.headerIndex
  split
  · decide
  · exact s.hidx.isLt

theorem State.captureIndex_lt (s : State) : s.captureIndex < 2 ^ 16 := s.captureIndex_le.trans_lt s.pcnt.isLt

@[simp] theorem State.byteTaken_hidx_toNat (s : State) : s.byteTaken.hidx.toNat = s.headerIndex :=
  toNat_ofNat_of_lt s.headerIndex_lt

@[simp] theorem State.byteTaken_pcnt_toNat (s : State) : s.byteTaken.pcnt.toNat =
    if s.captureIndex < s.dlen.toNat then s.captureIndex + 1 else s.captureIndex := by
  have hdlen := s.dlen.isLt
  have hindex := s.captureIndex_lt
  refine toNat_ofNat_of_lt ?_
  split <;> omega

/-- The captured byte is in `RXBUF` at the capture index, and every other index is as before (R95). -/
theorem State.byteTaken_rxByte (s : State) (j : Nat) : s.byteTaken.rxByte j =
    if s.captureIndex < s.dlen.toNat ∧ j = s.captureIndex then some s.inp.rxData else s.rxByte j := by
  simp only [State.rxByte, State.byteTaken]
  by_cases hc : s.captureIndex < s.dlen.toNat <;> simp [hc, Memory.get_set]

theorem State.resync_eq_indices (s : State) : s.resync s.inp.rxData =
    { s with hidx := BitVec.ofNat 16 s.headerIndex, pcnt := BitVec.ofNat 16 s.captureIndex } := by
  unfold State.resync State.headerIndex State.captureIndex
  split <;> simp

/-- Below the ceiling, payload capture appends the byte while fewer than `DLEN` are captured (R95). -/
theorem State.capturePayload_of_below (h : s.pcnt.toNat < s.maxPayload.toNat) :
    s.capturePayload b = some { s with
      rxbuf := if s.pcnt.toNat < s.dlen.toNat then s.rxbuf.set s.pcnt.toNat b else s.rxbuf
      pcnt := BitVec.ofNat 16 (if s.pcnt.toNat < s.dlen.toNat then s.pcnt.toNat + 1 else s.pcnt.toNat) } := by
  cases ht : s.capturePayload b with
  | none => exact absurd h (State.capturePayload_eq_none ht).not_gt
  | some t =>
    rcases State.capturePayload_cases ht with ⟨hlt, -, rfl⟩ | ⟨hle, rfl⟩
    · simp only [if_pos hlt, add_one_eq_ofNat_succ]
    · simp only [if_neg hle.not_gt, BitVec.ofNat_toNat, BitVec.setWidth_eq]

/-- The two header rules together: at `HIDX = 5` the byte stored is the low byte of the length latched (R96, R97). -/
theorem State.captureHeader_latchLength_eq (s : State) (b : Byte) : (s.captureHeader b).latchLength =
    { s with
      hdr := if s.hidx.toNat ≤ 5 then s.hdr.set s.hidx.toNat b else s.hdr
      dlen := if s.hidx.toNat = 5 then joinBytes s.hdr.lenHi b else s.dlen } := by
  by_cases h : s.hidx.toNat = 5
  · rw [State.captureHeader_latchLength_at_five h, h]
    rfl
  · simp only [State.latchLength_eq, State.captureHeader_eq, if_neg h]

/-- Before the deadline and below the ceiling, a presented byte goes through the capture rules to the end of its
processing (R89, R93). -/
theorem execStateRxwait_of_byte (he : s.elapsed.toNat < timeoutMs) (hv : s.inp.rxValid = true)
    (hmax : s.captureIndex < s.maxPayload.toNat) : execStateRxwait s = closeByte s.inp.rxData s.byteTaken := by
  have hindex : (BitVec.ofNat 16 s.captureIndex).toNat = s.captureIndex :=
    toNat_ofNat_of_lt s.captureIndex_lt
  have hheader : (BitVec.ofNat 16 s.headerIndex).toNat = s.headerIndex :=
    toNat_ofNat_of_lt s.headerIndex_lt
  have hsync : s.pop.resync s.inp.rxData =
      { s.pop with hidx := BitVec.ofNat 16 s.headerIndex, pcnt := BitVec.ofNat 16 s.captureIndex } :=
    s.pop.resync_eq_indices
  have hcapture := State.capturePayload_of_below (b := s.inp.rxData)
    (s := { s.pop with hidx := BitVec.ofNat 16 s.headerIndex, pcnt := BitVec.ofNat 16 s.captureIndex })
    (by rw [hindex]; exact hmax)
  rw [execStateRxwait, if_neg he.not_ge, if_pos hv, processByte, hsync, hcapture]
  simp only [State.captureHeader_latchLength_eq, hindex, hheader]
  rfl

/-! ## The end of a byte's processing -/

theorem closeByte_of_ceiling (h : ¬ (s.dlen.toNat + 5 ≤ s.hidx.toNat ∧ b = endByte))
    (hmax : s.maxPayload.toNat ≤ s.pcnt.toNat) :
    closeByte b s = finishRx .incomplete { s with hidx := BitVec.ofNat 16 (min (s.hidx.toNat + 1) 0xFFFF) } :=
  (if_neg (mt (terminates_iff ..).1 h)).trans (if_pos hmax)

/-- A byte that neither terminates the frame nor fills `RXBUF` counts in `HIDX`, and its strobe in `ELAPSED` (R91,
R99). -/
theorem closeByte_of_counted (he : s.elapsed.toNat < timeoutMs)
    (h : ¬ (s.dlen.toNat + 5 ≤ s.hidx.toNat ∧ b = endByte)) (hmax : s.pcnt.toNat < s.maxPayload.toNat) :
    closeByte b s = .next { s with
      hidx := BitVec.ofNat 16 (min (s.hidx.toNat + 1) 0xFFFF)
      elapsed := if s.inp.tickMs then BitVec.ofNat 16 (s.elapsed.toNat + 1) else s.elapsed } :=
  (closeByte_of_ongoing h hmax).trans (congrArg _ (State.tick_of_before_deadline he))

/-- Settles O38: the row's tests in their order, and the three ends of a byte's processing. -/
theorem rxwaitStepInOrder : Obligations.RxwaitStepInOrder := by
  rintro s _ h p hmax rfl hh hp
  obtain rfl : h = s.headerIndex := hh
  obtain rfl : p = s.captureIndex := hp
  refine ⟨fun he => if_pos he, idleReceiveStep s, fun he hv => ?_⟩
  have hbyte : exec .stateRxwait s = closeByte s.inp.rxData s.byteTaken :=
    execStateRxwait_of_byte he hv (s.captureIndex_le.trans_lt hmax)
  have hidx := s.byteTaken_hidx_toNat
  refine ⟨_, s.byteTaken, rfl, s.byteTaken_rxByte, fun ⟨hend, hd⟩ => ?_, fun hne hceil => ?_, fun hne hbelow => ?_⟩
  · rw [hbyte, hd]
    exact closeByte_of_terminator (hidx ▸ hend)
  · rw [hbyte, ← hidx]
    exact closeByte_of_ceiling (hidx ▸ hne) hceil
  · rw [hbyte, ← hidx]
    exact closeByte_of_counted he (hidx ▸ hne) hbelow

/-! ## A byte at a place of the frame -/

/-- Before the length byte the header rules only store the byte (R96). -/
theorem State.captureHeader_latchLength_before_five (h : s.hidx.toNat ≤ 4) :
    (s.captureHeader b).latchLength = { s with hdr := s.hdr.set s.hidx.toNat b } := by
  rw [State.captureHeader_latchLength_eq, if_neg (show s.hidx.toNat ≠ 5 by omega), if_pos (by omega)]

/-- Settles O30: the byte is stored, and at these positions no frame ends (R98). -/
theorem headerByteStored : Obligations.HeaderByteStored := by
  intro s b he hv hd hb hidx hc hmax
  have hcount : BitVec.ofNat 16 (min (s.hidx.toNat + 1) 0xFFFF) = BitVec.ofNat 16 (s.hidx.toNat + 1) := by
    rw [min_eq_left (by omega)]
  refine (execStateRxwait_of_uncaptured he hv hd hb hc).trans ?_
  rw [State.captureHeader_latchLength_before_five (s := s.pop) hidx, ← hcount]
  exact closeByte_of_counted he (fun h => absurd h.1 (by simp only [State.pop_hidx]; omega)) hmax

/-- Settles O34: with the payload complete no rule before the terminator test takes note of the byte. -/
theorem extraByteTolerated : Obligations.ExtraByteTolerated := by
  intro s b he hv hd hb hne hpast hc hmax
  refine (execStateRxwait_of_uncaptured he hv hd hb hc).trans ?_
  rw [State.captureHeader_latchLength_of_past (s := s.pop) hpast]
  exact closeByte_of_counted he (fun h => hne h.2) hmax

section
variable (hd : s.inp.rxData = b) (hb : b ≠ startByte)
include hd hb

theorem State.headerIndex_of_ne : s.headerIndex = s.hidx.toNat := if_neg (hd ▸ hb)

theorem State.captureIndex_of_ne : s.captureIndex = s.pcnt.toNat := if_neg (hd ▸ hb)

/-- Past the header, a byte of the payload is captured and nothing else is written (R95). -/
theorem State.byteTaken_of_payload (hpast : 6 ≤ s.hidx.toNat) (hc : s.pcnt.toNat < s.dlen.toNat) :
    s.byteTaken = { s.pop with
      rxbuf := s.rxbuf.set s.pcnt.toNat b, pcnt := BitVec.ofNat 16 (s.pcnt.toNat + 1) } := by
  simp only [State.byteTaken, State.headerIndex_of_ne hd hb, State.captureIndex_of_ne hd hb, if_pos hc, hd,
    if_neg (show ¬ s.hidx.toNat ≤ 5 by omega), if_neg (show s.hidx.toNat ≠ 5 by omega), BitVec.ofNat_toNat,
    BitVec.setWidth_eq]
  rfl

/-- A payload byte below the ceiling goes on to the end of its processing, captured (R93, R95). -/
theorem execStateRxwait_of_payload (he : s.elapsed.toNat < timeoutMs) (hv : s.inp.rxValid = true)
    (hpast : 6 ≤ s.hidx.toNat) (hc : s.pcnt.toNat < s.dlen.toNat) (hmax : s.pcnt.toNat < s.maxPayload.toNat) :
    execStateRxwait s = closeByte b { s.pop with
      rxbuf := s.rxbuf.set s.pcnt.toNat b, pcnt := BitVec.ofNat 16 (s.pcnt.toNat + 1) } := by
  rw [execStateRxwait_of_byte he hv (by rwa [State.captureIndex_of_ne hd hb]),
    State.byteTaken_of_payload hd hb hpast hc, hd]

end

/-- The count of captured bytes fits in `PCNT` (R24). -/
theorem pcnt_succ_toNat (h : s.pcnt.toNat < s.dlen.toNat) :
    (BitVec.ofNat 16 (s.pcnt.toNat + 1)).toNat = s.pcnt.toNat + 1 :=
  toNat_ofNat_of_lt (lt_of_le_of_lt h s.dlen.isLt)

/-- Settles O32: the captured byte neither ends the frame nor fills `RXBUF`. -/
theorem payloadByteCaptured : Obligations.PayloadByteCaptured := by
  intro s b he hv hd hb hpast hne hc hmax
  refine ⟨s.rxbuf.set s.pcnt.toNat b, ?_, Memory.get_set_same _ _ b, fun _ hj => Memory.get_set_of_ne _ b hj⟩
  refine (execStateRxwait_of_payload hd hb he hv hpast hc (by omega)).trans ?_
  exact closeByte_of_counted he (fun h => hne h.symm) (by rw [pcnt_succ_toNat hc]; exact hmax)

/-- Settles O33: the captured byte does not end the frame, and fills `RXBUF`. -/
theorem ceilingEndsReception : Obligations.CeilingEndsReception := by
  intro s b he hv hd hb hpast hne hc hmax
  refine ⟨s.rxbuf.set s.pcnt.toNat b, ?_, Memory.get_set_same _ _ b, fun _ hj => Memory.get_set_of_ne _ b hj⟩
  have hfull : BitVec.ofNat 16 (s.pcnt.toNat + 1) = s.maxPayload := by
    rw [hmax, BitVec.ofNat_toNat, BitVec.setWidth_eq]
  refine (execStateRxwait_of_payload hd hb he hv hpast hc (by omega)).trans ?_
  rw [hfull]
  exact closeByte_of_ceiling (fun h => hne h.symm) le_rfl

/-- A 0xFE is taken as `HDR[0]`, and as the first payload byte where a length is still latched (R94, R95, R105). -/
theorem State.byteTaken_of_start (hd : s.inp.rxData = startByte) :
    s.byteTaken = { s.pop with
      hidx := 0, hdr := { s.hdr with start := startByte }
      pcnt := if s.dlen = 0 then 0 else 1
      rxbuf := if s.dlen = 0 then s.rxbuf else s.rxbuf.set 0 startByte } := by
  have hheader : s.headerIndex = 0 := if_pos hd
  have hcapture : s.captureIndex = 0 := if_pos hd
  rw [State.byteTaken, hheader, hcapture, hd]
  by_cases h : s.dlen = 0
  · have hnone : ¬ 0 < s.dlen.toNat := by simp [h]
    rw [if_neg hnone, if_neg hnone, if_pos h, if_pos h]
    rfl
  · have hsome : 0 < s.dlen.toNat := by bv_omega
    rw [if_pos hsome, if_pos hsome, if_neg h, if_neg h]
    rfl

/-- A 0xFE goes on to the end of its processing, where it is no terminator (R93, R94). -/
theorem execStateRxwait_of_start (he : s.elapsed.toNat < timeoutMs) (hv : s.inp.rxValid = true)
    (hd : s.inp.rxData = startByte) (hmax : 0 < s.maxPayload.toNat) :
    execStateRxwait s = closeByte startByte s.byteTaken := by
  have hcapture : s.captureIndex = 0 := if_pos hd
  rw [execStateRxwait_of_byte he hv (by rwa [hcapture]), hd]

/-- Settles O35: after a 0xFE `PCNT` is 0 or 1, which is compared with the ceiling. -/
theorem startByteResynchronises : Obligations.StartByteResynchronises := by
  intro s he hv hd
  have hstart : ¬ (s.byteTaken.dlen.toNat + 5 ≤ s.byteTaken.hidx.toNat ∧ startByte = endByte) := by simp
  have hmem : ∀ j, j ≠ 0 → (s.rxbuf.set 0 0xFE).get j = s.rxByte j := fun _ hj => Memory.get_set_of_ne _ _ hj
  refine ⟨fun hlen hmax => ?_, fun hlen hmax => ?_, fun hlen hmax => ?_⟩
  · have hbyte := execStateRxwait_of_start he hv hd hmax
    rw [State.byteTaken_of_start hd, if_pos hlen, if_pos hlen] at hbyte hstart
    exact hbyte.trans (closeByte_of_counted he hstart hmax)
  · have hbyte := execStateRxwait_of_start he hv hd (by omega)
    rw [State.byteTaken_of_start hd, if_neg hlen, if_neg hlen] at hbyte hstart
    exact ⟨_, hbyte.trans (closeByte_of_counted he hstart hmax), Memory.get_set_same _ _ _, hmem⟩
  · have hbyte := execStateRxwait_of_start he hv hd (by omega)
    rw [State.byteTaken_of_start hd, if_neg hlen, if_neg hlen] at hbyte hstart
    exact ⟨_, hbyte.trans (closeByte_of_ceiling hstart hmax.le), Memory.get_set_same _ _ _, hmem⟩

/-! ## The end of a frame -/

/-- A completed frame publishes what the row of its class does (R69, R107). -/
theorem finishRx_complete_of_class {c : FrameClass} (h : frameClass s.op s.hdr.cmdType s.hdr.cmdId = some c) :
    finishRx .complete s =
      exec c.toInstr { s with state := phasePostdrain, notify := s.hdr.isNotification } := classify_eq_exec h

theorem frameClass_execute_notify (id : Byte) :
    frameClass opExecute notifyType id = some (.executeNotify id) := by
  simp [frameClass]

theorem frameClass_execute_reply {cmdType id : Byte} (ht : cmdType ≠ notifyType)
    (hn : ¬ (cmdType = 0x00 ∧ id = 0x02)) : frameClass opExecute cmdType id = some (.executeReply cmdType id) := by
  rw [frameClass, if_pos rfl, if_neg hn, if_neg ht]

theorem frameClass_poll_notify (id : Byte) : frameClass opPoll notifyType id = some (.pollNotify id) := by
  simp [frameClass]

theorem frameClass_poll_other {cmdType id : Byte} (ht : cmdType ≠ notifyType) :
    frameClass opPoll cmdType id = some (.pollOther cmdType id) := by
  rw [frameClass, if_neg (by decide), if_pos rfl, if_neg ht]

/-- Settles O36: a terminator runs the row of the frame's class, one row for each case of `OP`, type and id. -/
theorem terminatorCompletesFrame : Obligations.TerminatorCompletesFrame := by
  intro s he hv hd hpast hend hc
  have hrow : ∀ {c : FrameClass}, frameClass s.op s.hdr.cmdType s.hdr.cmdId = some c →
      exec .stateRxwait s = exec c.toInstr { s.pop with state := 6, notify := decide (s.hdr.cmdType = 0x07) } :=
    fun h => completionRunsDecodedClass s _ he hv hd hpast hend hc
      ((decode_classBytes ..).trans (decodeNumber_makeClassWord h))
  refine ⟨fun hop ht hid => ?_, fun hop ht => ?_, fun hop ht hn => ?_, fun hop ht => ?_, fun hop ht => ?_⟩
  · exact hrow (c := .executeNack) (by rw [hop, ht, hid]; rfl)
  · exact hrow (by rw [hop, ht]; exact frameClass_execute_notify _)
  · exact hrow (by rw [hop]; exact frameClass_execute_reply ht hn)
  · have hevent : eventCode s.hdr.cmdId = BitVec.ofNat 8 (s.hdr.cmdId.toNat + 1) :=
      BitVec.eq_of_toNat_eq (by simp [eventCode])
    rw [← hevent]
    exact hrow (by rw [hop, ht]; exact frameClass_poll_notify _)
  · exact hrow (by rw [hop]; exact frameClass_poll_other ht)

/-- Settles O37: the last payload byte is captured before the terminator test, which comes before the ceiling. -/
theorem lastPayloadByteMayTerminate : Obligations.LastPayloadByteMayTerminate := by
  intro s he hv hd hpast hidx hlast hmax hop ht hn
  refine ⟨s.rxbuf.set s.pcnt.toNat endByte, ?_, Memory.get_set_same _ _ _, fun _ hj => Memory.get_set_of_ne _ _ hj⟩
  have hlen : BitVec.ofNat 16 (s.pcnt.toNat + 1) = s.dlen := by
    rw [hlast, BitVec.ofNat_toNat, BitVec.setWidth_eq]
  refine (execStateRxwait_of_payload (b := endByte) hd (by decide) he hv hpast (by omega) (by omega)).trans ?_
  have hclass : frameClass s.op s.hdr.cmdType s.hdr.cmdId = some (.executeReply s.hdr.cmdType s.hdr.cmdId) := by
    rw [hop]
    exact frameClass_execute_reply ht hn
  rw [hlen]
  exact (closeByte_of_terminator (by exact hidx.ge)).trans
    (finishRx_complete_of_class (c := .executeReply s.hdr.cmdType s.hdr.cmdId) (by exact hclass))

end Sys2Proof.Machine
end

section
/-! Runs of RXWAIT: without a byte, up to the deadline (R90 to R92), and over the bytes of a clean frame (R102). -/

namespace Sys2Proof.Machine

variable {s t : State} {p q : Pins} {ps rest : List Pins}

/-! ## Steps and runs -/

/-- A step made after `n` others. -/
theorem core_run_succ_of_run {n : Nat} (h : Sys2Proof.core.run n s = .next t) :
    Sys2Proof.core.run (n + 1) s = step t := by
  induction n generalizing s with
  | zero =>
    obtain rfl : s = t := Host.Outcome.next.inj h
    rw [core_run_succ]
    cases step s <;> rfl
  | succ n ih =>
    rw [core_run_succ] at h
    obtain ⟨u, hu, hrun⟩ := andThen_eq_next.1 h
    rw [core_run_of_step hu]
    exact ih hrun

theorem State.nextPins_of_cons (hs : s.schedule = p :: rest) : s.nextPins = p := by
  rw [State.nextPins, hs]

/-- An undisturbed step in RXWAIT is the row of RXWAIT (R83, R89). -/
theorem step_of_rxwait (hphase : s.state = phaseRxwait) (hs : s.schedule = p :: rest)
    (hp : p.rst = false ∧ p.busEn = false) (hc : contractHolds s s.nextPins = true) :
    step s = execStateRxwait (s.sample p) := by
  have hrow : decodePhase s.state = .stateRxwait := by rw [hphase]; rfl
  rw [step_undisturbed hs hp.1 hp.2 (State.nextPins_of_cons hs ▸ hc), hrow]
  rfl

theorem Undisturbed.head (h : Undisturbed (p :: ps)) : p.rst = false ∧ p.busEn = false :=
  h p List.mem_cons_self

theorem Undisturbed.tail (h : Undisturbed (p :: ps)) : Undisturbed ps :=
  fun p' hp' => h p' (List.mem_cons_of_mem p hp')

theorem receivedBytes_cons_of_invalid (hv : p.rxValid = false) (ps : List Pins) :
    receivedBytes (p :: ps) = receivedBytes ps := by
  simp [receivedBytes, hv]

theorem strobes_cons (p : Pins) (ps : List Pins) : strobes (p :: ps) = p.tickMs.toNat + strobes ps := by
  rw [strobes, List.countP_cons, Nat.add_comm]
  cases p.tickMs <;> rfl

/-- Before the deadline `ELAPSED` counts every strobe (R91). -/
theorem State.tick_elapsed_toNat (he : s.elapsed.toNat < timeoutMs) :
    s.tick.elapsed.toNat = s.elapsed.toNat + s.inp.tickMs.toNat := by
  rw [State.tick_of_before_deadline he]
  cases s.inp.tickMs with
  | false => rfl
  | true => exact toNat_ofNat_of_lt (by simp only [timeoutMs] at he; omega)

/-! ## Waiting for a byte -/

/-- The state `t` is `s` after a stretch of steps without a byte: the strobes are counted in `ELAPSED`, nothing else has
changed but the ports, the step count and the schedule, and the next inputs keep the transport contract. -/
structure Waited (s : State) (ps rest : List Pins) (t : State) : Prop where
  frame : ∃ e i o, t = { s with
    elapsed := e, inp := i, out := o, cycle := s.cycle + ps.length, schedule := rest }
  elapsed : t.elapsed.toNat = s.elapsed.toNat + strobes ps
  contract : contractHolds t t.nextPins = true

theorem Waited.state (h : Waited s ps rest t) : t.state = s.state := by
  obtain ⟨_, _, _, rfl⟩ := h.frame
  rfl

theorem Waited.schedule (h : Waited s ps rest t) : t.schedule = rest := by
  obtain ⟨_, _, _, rfl⟩ := h.frame
  rfl

/-- One step without a byte counts its strobe (R92). -/
theorem step_waits (hphase : s.state = phaseRxwait) (hs : s.schedule = p :: rest)
    (hp : p.rst = false ∧ p.busEn = false) (hc : contractHolds s s.nextPins = true) (hv : p.rxValid = false)
    (he : s.elapsed.toNat < timeoutMs) : ∃ t, step s = .next t ∧ Waited s [p] rest t := by
  have hwait : execStateRxwait (s.sample p) = .next (s.sample p).tick := execStateRxwait_of_no_byte he hv
  have hcount : (s.sample p).tick.elapsed.toNat = s.elapsed.toNat + p.tickMs.toNat := State.tick_elapsed_toNat he
  refine ⟨(s.sample p).tick, (step_of_rxwait hphase hs hp hc).trans hwait, ?_, ?_, ?_⟩
  · rw [State.tick_eq, ← List.tail_cons (a := p) (as := rest), ← hs]
    exact ⟨_, _, _, rfl⟩
  · rw [hcount, strobes_cons]
    rfl
  · rw [State.tick_eq]
    exact contractHolds_of_popped (fun h => absurd h (ne_true_of_eq_false hv)) rfl

/-- A stretch of waiting after one step of it is a longer stretch. -/
theorem Waited.trans {u : State} {rest' : List Pins} (hu : Waited s [p] rest' u) (ht : Waited u ps rest t) :
    Waited s (p :: ps) rest t where
  frame := by
    obtain ⟨_, _, _, rfl⟩ := hu.frame
    obtain ⟨e, i, o, rfl⟩ := ht.frame
    have hcycle : s.cycle + (p :: ps).length = s.cycle + 1 + ps.length := by
      rw [List.length_cons]
      omega
    exact ⟨e, i, o, by rw [hcycle]; rfl⟩
  elapsed := by
    rw [ht.elapsed, hu.elapsed, strobes_cons, strobes_cons]
    exact Nat.add_assoc ..
  contract := ht.contract

/-- RXWAIT waits as long as every step of the stretch starts before the deadline (R90 to R92). -/
theorem run_waits (hphase : s.state = phaseRxwait) (hs : s.schedule = ps ++ rest) (hu : Undisturbed ps)
    (hbytes : receivedBytes ps = []) (hc : contractHolds s s.nextPins = true)
    (he : ps ≠ [] → s.elapsed.toNat + strobes ps.dropLast < timeoutMs) :
    ∃ t, Sys2Proof.core.run ps.length s = .next t ∧ Waited s ps rest t := by
  induction ps generalizing s with
  | nil =>
    obtain rfl : s.schedule = rest := hs
    exact ⟨s, rfl, ⟨_, _, _, rfl⟩, rfl, hc⟩
  | cons p ps ih =>
    have hv : p.rxValid = false := by
      by_contra hv
      simp [receivedBytes_cons_of_valid (by simpa using hv)] at hbytes
    have hlt : s.elapsed.toNat < timeoutMs := (Nat.le_add_right ..).trans_lt (he (List.cons_ne_nil p ps))
    obtain ⟨u, hstep, hw⟩ := step_waits hphase hs hu.head hc hv hlt
    have hlater : ps ≠ [] → u.elapsed.toNat + strobes ps.dropLast < timeoutMs := fun hne => by
      have hrest := he (List.cons_ne_nil p ps)
      rw [List.dropLast_cons_of_ne_nil hne, strobes_cons, ← Nat.add_assoc] at hrest
      rwa [hw.elapsed, strobes_cons]
    obtain ⟨t, hrun, ht⟩ := ih (hw.state.trans hphase) hw.schedule hu.tail
      (receivedBytes_cons_of_invalid hv ps ▸ hbytes) hw.contract hlater
    exact ⟨t, (core_run_of_step hstep _).trans hrun, hw.trans ht⟩

/-- Settles O45: RXWAIT waits over the stretch, and at 200 strobes the next step's deadline test ends it. -/
theorem deadlineCountsStrobes : Obligations.DeadlineCountsStrobes := by
  intro s ps q rest hs hu hbytes hphase h0 hc hlt
  have hzero : s.elapsed.toNat = 0 := congrArg BitVec.toNat h0
  obtain ⟨t, hrun, hw⟩ := run_waits hphase hs (fun p hp => hu p (List.mem_append_left _ hp)) hbytes hc
    fun _ => by simpa [hzero] using hlt
  have hcount : t.elapsed.toNat = strobes ps := by rw [hw.elapsed, hzero, Nat.zero_add]
  have hstep := step_of_rxwait (hw.state.trans hphase) hw.schedule (hu q (by simp)) hw.contract
  have hlate (h200 : strobes ps = 200) := deadlineEndsReception (t.sample q) (hcount.trans h200).ge
  obtain ⟨_, _, _, rfl⟩ := hw.frame
  refine ⟨_, hrun, hphase, hcount, rfl, rfl, rfl, rfl, rfl, rfl, rfl, fun h200 => ?_⟩
  exact ⟨_, (core_run_succ_of_run hrun).trans (hstep.trans (hlate h200)), rfl, rfl, rfl, rfl, rfl, rfl⟩

end Sys2Proof.Machine
end

section
/-! The reception of a clean frame (R102): the frame byte by byte, what RXWAIT holds of it after each byte, and the run
over its bytes with idle steps and strobes between them. -/

namespace Sys2Proof.Machine

/-! ## Clean frames -/

/-- The contents of a frame from the module (R61). -/
structure Frame where
  cmdType  : Byte
  cmdId    : Byte
  reserved : Byte
  payload  : List Byte

/-- The six header bytes of a frame (R61, R64). -/
def Frame.header (f : Frame) : Header :=
  { start := startByte, cmdType := f.cmdType, cmdId := f.cmdId, reserved := f.reserved
    lenHi := BitVec.ofNat 8 (f.payload.length / 256), lenLo := BitVec.ofNat 8 f.payload.length }

/-- What follows the 0xFE of a frame, up to its END byte. -/
def Frame.body (f : Frame) : List Byte :=
  [f.cmdType, f.cmdId, f.reserved, f.header.lenHi, f.header.lenLo] ++ f.payload

/-- The bytes of a frame on the wire (R61). -/
def Frame.bytes (f : Frame) : List Byte := startByte :: (f.body ++ [endByte])

/-- A frame that is received without resynchronisation, early termination or a saturated `HIDX` (R94, R98, R102). -/
structure Frame.Clean (f : Frame) : Prop where
  length_le : f.payload.length ≤ 65529
  no_start : ∀ b ∈ f.body, b ≠ startByte
  last_ne_end : ∀ b, f.payload.getLast? = some b → b ≠ endByte

variable {f : Frame} {i : Nat} {b : Byte}

theorem Frame.bytes_length (f : Frame) : f.bytes.length = f.payload.length + 7 := by
  simp [Frame.bytes, Frame.body]

theorem Frame.bytes_header (f : Frame) {k : Nat} (hk : k ≤ 5) : f.bytes[k]? = some (f.header.get k) := by
  interval_cases k <;> rfl

theorem Frame.bytes_payload (f : Frame) {k : Nat} (hk : k < f.payload.length) :
    f.bytes[k + 6]? = f.payload[k]? := by
  have hbytes : f.bytes[k + 6]? = (f.payload ++ [endByte])[k]? := rfl
  rw [hbytes, List.getElem?_append_left hk]

theorem Frame.bytes_end (f : Frame) : f.bytes[f.payload.length + 6]? = some endByte := by
  have hbytes : f.bytes[f.payload.length + 6]? = (f.payload ++ [endByte])[f.payload.length]? := rfl
  rw [hbytes, List.getElem?_concat_length]

/-- The length bytes of a frame make its length (R64). -/
theorem Frame.Clean.declaredLength_toNat (hf : f.Clean) : f.header.declaredLength.toNat = f.payload.length := by
  have hlen := hf.length_le
  simp only [Header.declaredLength, Frame.header, joinBytes_toNat, BitVec.toNat_ofNat]
  omega

/-- The only 0xFE of a clean frame is its first byte (R94). -/
theorem Frame.Clean.start_iff (hf : f.Clean) (hb : f.bytes[i]? = some b) : b = startByte ↔ i = 0 := by
  cases i with
  | zero => exact iff_of_true (Option.some.inj hb).symm rfl
  | succ i =>
    refine iff_of_false ?_ (Nat.succ_ne_zero i)
    rcases List.mem_append.1 (List.mem_of_getElem? (show (f.body ++ [endByte])[i]? = some b from hb)) with hb | hb
    · exact hf.no_start b hb
    · rw [List.mem_singleton.1 hb]
      decide

/-- The byte before the END byte of a clean frame is no 0xFD, so that the frame does not end one byte early (R98). -/
theorem Frame.Clean.before_end_ne (hf : f.Clean) (hb : f.bytes[f.payload.length + 5]? = some b) : b ≠ endByte := by
  rcases Nat.eq_zero_or_pos f.payload.length with h0 | hpos
  · rw [h0, f.bytes_header (le_refl 5)] at hb
    obtain rfl := Option.some.inj hb
    simp [Header.get, Frame.header, h0]
  · obtain ⟨n, hn⟩ : ∃ n, f.payload.length = n + 1 := ⟨_, (Nat.succ_pred_eq_of_pos hpos).symm⟩
    rw [hn, f.bytes_payload (k := n) (by omega)] at hb
    exact hf.last_ne_end b (by rw [List.getLast?_eq_getElem?, hn]; exact hb)

/-! ## What RXWAIT holds of a frame -/

theorem Header.get_set (h : Header) {k j : Nat} (hk : k ≤ 5) (hj : j ≤ 5) (b : Byte) :
    (h.set k b).get j = if j = k then b else h.get j := by
  interval_cases k <;> interval_cases j <;> rfl

theorem Header.ext_get {h g : Header} (hg : ∀ k ≤ 5, h.get k = g.get k) : h = g := by
  have h0 : h.start = g.start := hg 0 (by decide)
  have h1 : h.cmdType = g.cmdType := hg 1 (by decide)
  have h2 : h.cmdId = g.cmdId := hg 2 (by decide)
  have h3 : h.reserved = g.reserved := hg 3 (by decide)
  have h4 : h.lenHi = g.lenHi := hg 4 (by decide)
  have h5 : h.lenLo = g.lenLo := hg 5 (by decide)
  cases h
  cases g
  simp_all

/-- The first `i` bytes of a frame, of those before its END byte, are received (R95 to R99). -/
structure Received (f : Frame) (i : Nat) (s : State) : Prop where
  hidx : s.hidx.toNat = i
  pcnt : s.pcnt.toNat = i - 6
  dlen : s.dlen.toNat = if i ≤ 5 then 0 else f.payload.length
  header : ∀ k < i, k ≤ 5 → s.hdr.get k = f.header.get k
  payload : ∀ k < i - 6, s.rxByte k = f.payload[k]?

variable {s t : State}

theorem Received.of_clear (hh : s.hidx = 0) (hp : s.pcnt = 0) (hd : s.dlen = 0) : Received f 0 s where
  hidx := by simp [hh]
  pcnt := by simp [hp]
  dlen := by simp [hd]
  header := by simp
  payload := by simp

section
variable (h : Received f i s) (hf : f.Clean) (hb : f.bytes[i]? = some s.inp.rxData)
include h hf hb

theorem Received.headerIndex : s.headerIndex = i := by
  unfold State.headerIndex
  split
  next hd => exact ((hf.start_iff hb).1 hd).symm
  next => exact h.hidx

theorem Received.captureIndex : s.captureIndex = i - 6 := by
  unfold State.captureIndex
  split
  next hd => rw [(hf.start_iff hb).1 hd]
  next => exact h.pcnt

/-- A byte is captured exactly past the header (R95). -/
theorem Received.captures_iff (hi : i < f.payload.length + 6) : s.captureIndex < s.dlen.toNat ↔ 6 ≤ i := by
  rw [h.captureIndex hf hb, h.dlen]
  split <;> omega

/-- `DLEN` is 0 up to the length byte and then the length of the frame (R97). -/
theorem Received.byteTaken_dlen : s.byteTaken.dlen.toNat = if i + 1 ≤ 5 then 0 else f.payload.length := by
  have hdlen := h.dlen
  simp only [State.byteTaken, h.headerIndex hf hb]
  rcases lt_trichotomy i 5 with hlt | rfl | hgt
  · rw [if_neg hlt.ne, hdlen, if_pos hlt.le, if_pos (by omega)]
  · have hlow : s.inp.rxData = f.header.lenLo := Option.some.inj (hb.symm.trans (f.bytes_header (le_refl 5)))
    have hhigh : s.hdr.lenHi = f.header.lenHi := h.header 4 (by decide) (by decide)
    rw [if_pos rfl, hlow, hhigh]
    exact hf.declaredLength_toNat
  · rw [if_neg hgt.ne', hdlen, if_neg (by omega), if_neg (by omega)]

/-- No byte before the END byte terminates the frame (R98). -/
theorem Received.not_terminator (hi : i < f.payload.length + 6) :
    ¬ (s.byteTaken.dlen.toNat + 5 ≤ s.byteTaken.hidx.toNat ∧ s.inp.rxData = endByte) := by
  rintro ⟨hle, hend⟩
  rw [h.byteTaken_dlen hf hb, s.byteTaken_hidx_toNat, h.headerIndex hf hb] at hle
  have hlast : i = f.payload.length + 5 := by split at hle <;> omega
  rw [hlast] at hb
  exact hf.before_end_ne hb hend

theorem Received.byteTaken_pcnt (hi : i < f.payload.length + 6) : s.byteTaken.pcnt.toNat = i + 1 - 6 := by
  have hcaptures := h.captures_iff hf hb hi
  rw [s.byteTaken_pcnt_toNat, h.captureIndex hf hb]
  rw [h.captureIndex hf hb] at hcaptures
  split <;> omega

theorem Received.byteTaken_header {k : Nat} (hk : k < i + 1) (hk5 : k ≤ 5) :
    s.byteTaken.hdr.get k = f.header.get k := by
  simp only [State.byteTaken, h.headerIndex hf hb]
  by_cases hi : i ≤ 5
  · rw [if_pos hi, Header.get_set _ hi hk5]
    split
    next hki => exact Option.some.inj (hb.symm.trans (hki ▸ f.bytes_header hk5))
    next hki => exact h.header k (by omega) hk5
  · rw [if_neg hi]
    exact h.header k (by omega) hk5

theorem Received.byteTaken_payload (hi : i < f.payload.length + 6) {k : Nat} (hk : k < i + 1 - 6) :
    s.byteTaken.rxByte k = f.payload[k]? := by
  rw [State.byteTaken_rxByte]
  split
  next hnew =>
    have hpast : 6 ≤ i := (h.captures_iff hf hb hi).1 hnew.1
    have hk : k = i - 6 := hnew.2.trans (h.captureIndex hf hb)
    rw [← f.bytes_payload (by omega), hk, Nat.sub_add_cancel hpast, hb]
  next hold =>
    rw [h.captures_iff hf hb hi, h.captureIndex hf hb] at hold
    exact h.payload k (by omega)

end

/-- The state after the counter advance of a byte with which reception goes on (R99). -/
def State.byteCounted (s : State) : State := { s.byteTaken with hidx := sat16Succ s.byteTaken.hidx }

/-- A byte before the END byte is received, and reception goes on (R93 to R99). -/
theorem Received.receives (h : Received f i s) (hf : f.Clean) (hb : f.bytes[i]? = some s.inp.rxData)
    (hv : s.inp.rxValid = true) (he : s.elapsed.toNat < timeoutMs) (hi : i < f.payload.length + 6)
    (hroom : f.payload.length < s.maxPayload.toNat) :
    execStateRxwait s = .next s.byteCounted.tick ∧ Received f (i + 1) s.byteCounted := by
  have hlen := hf.length_le
  have hcapture := h.captureIndex hf hb
  have hpcnt := h.byteTaken_pcnt hf hb hi
  have hbelow : s.byteTaken.pcnt.toNat < s.byteTaken.maxPayload.toNat := by
    rw [hpcnt]
    exact lt_of_le_of_lt (by omega) hroom
  refine ⟨?_, ?_, hpcnt, h.byteTaken_dlen hf hb, fun k => h.byteTaken_header hf hb,
    fun k => h.byteTaken_payload hf hb hi⟩
  · exact (execStateRxwait_of_byte he hv (by omega)).trans (closeByte_of_ongoing (h.not_terminator hf hb hi) hbelow)
  · rw [State.byteCounted, sat16Succ_toNat, s.byteTaken_hidx_toNat, h.headerIndex hf hb]
    exact min_eq_left (by omega)

/-- The END byte completes the frame, with everything received of it in place (R98, R107). -/
theorem Received.completes (h : Received f (f.payload.length + 6) s) (hd : s.inp.rxData = endByte)
    (hv : s.inp.rxValid = true) (he : s.elapsed.toNat < timeoutMs) :
    ∃ t, execStateRxwait s = .next t ∧ t.state = phasePostdrain ∧ Received f (f.payload.length + 6) t ∧
      t.taken = s.taken ++ [s.inp.rxData] := by
  have hidx := h.hidx
  have hpcnt := h.pcnt
  have hdlen : s.dlen.toNat = f.payload.length := h.dlen.trans (if_neg (by omega))
  obtain ⟨c, k, n, g, e, hfinish⟩ := finishRx_cases .complete s.pop
  have hrow : execStateRxwait s = finishRx .complete s.pop := by
    rw [execStateRxwait_of_uncaptured he hv hd (by decide) (by omega),
      State.captureHeader_latchLength_of_past (s := s.pop) (by rw [State.pop_hidx]; omega)]
    exact closeByte_of_terminator (by rw [State.pop_dlen, State.pop_hidx]; omega)
  exact ⟨_, hrow.trans hfinish, rfl, { h with }, rfl⟩

/-! ## The run over a clean frame -/

theorem receivedBytes_concat {ps : List Pins} {q : Pins} (hq : q.rxValid = true) :
    receivedBytes (ps ++ [q]) = receivedBytes ps ++ [q.rxData] := by
  simp [receivedBytes, hq]

/-- Reception of a frame with its first `i` bytes received, before undisturbed steps that present the others: those of
`ps`, which are over before the deadline, and then the END byte of `q`. -/
structure Receiving (f : Frame) (i : Nat) (ps : List Pins) (q : Pins) (rest : List Pins) (s : State) : Prop where
  received : Received f i s
  phase : s.state = phaseRxwait
  room : f.payload.length < s.maxPayload.toNat
  schedule : s.schedule = ps ++ q :: rest
  undisturbed : Undisturbed (ps ++ [q])
  contract : contractHolds s s.nextPins = true
  bytes : receivedBytes (ps ++ [q]) = f.bytes.drop i
  last : q.rxValid = true
  deadline : s.elapsed.toNat + strobes ps < timeoutMs

variable {p q : Pins} {ps rest : List Pins}

/-- A step without a byte leaves the same bytes to come (R92). -/
theorem Receiving.waits (h : Receiving f i (p :: ps) q rest s) (hv : p.rxValid = false) :
    ∃ u, step s = .next u ∧ Receiving f i ps q rest u ∧ u.taken = s.taken := by
  have hlate := h.deadline
  rw [strobes_cons] at hlate
  obtain ⟨u, hstep, hw⟩ := step_waits h.phase h.schedule h.undisturbed.head h.contract hv (by omega)
  have hcount : u.elapsed.toNat = s.elapsed.toNat + p.tickMs.toNat := hw.elapsed
  have hcontract := hw.contract
  obtain ⟨_, _, _, rfl⟩ := hw.frame
  exact ⟨_, hstep, {
    received := { h.received with }
    phase := h.phase
    room := h.room
    schedule := rfl
    undisturbed := h.undisturbed.tail
    contract := hcontract
    bytes := (receivedBytes_cons_of_invalid hv _).symm.trans h.bytes
    last := h.last
    deadline := by omega }, rfl⟩

/-- A byte before the END byte is the next of the frame, and is received (R93 to R99). -/
theorem Receiving.receives (h : Receiving f i (p :: ps) q rest s) (hf : f.Clean) (hv : p.rxValid = true) :
    ∃ u, step s = .next u ∧ Receiving f (i + 1) ps q rest u ∧ u.taken = s.taken ++ [p.rxData] := by
  have hlate := h.deadline
  rw [strobes_cons] at hlate
  have hcons : p.rxData :: receivedBytes (ps ++ [q]) = f.bytes.drop i :=
    (receivedBytes_cons_of_valid hv _).symm.trans h.bytes
  have hbyte : f.bytes[i]? = some p.rxData := by rw [← List.head?_drop, ← hcons, List.head?_cons]
  have hbytes : receivedBytes (ps ++ [q]) = f.bytes.drop (i + 1) := by rw [← List.tail_drop, ← hcons, List.tail_cons]
  have hi : i < f.payload.length + 6 := by
    have hlen := congrArg List.length hbytes
    rw [receivedBytes_concat h.last, List.length_append, List.length_singleton, List.length_drop,
      f.bytes_length] at hlen
    omega
  have hbefore : (s.sample p).elapsed.toNat < timeoutMs := (Nat.le_add_right ..).trans_lt hlate
  have hsample : Received f i (s.sample p) := { h.received with }
  obtain ⟨hrow, hreceived⟩ := hsample.receives hf hbyte hv hbefore hi h.room
  have hstep := (step_of_rxwait h.phase h.schedule h.undisturbed.head h.contract).trans hrow
  have hcount : (s.sample p).byteCounted.tick.elapsed.toNat = s.elapsed.toNat + p.tickMs.toNat :=
    State.tick_elapsed_toNat hbefore
  rw [State.tick_eq] at hstep hcount
  exact ⟨_, hstep, {
    received := { hreceived with }
    phase := h.phase
    room := h.room
    schedule := congrArg List.tail h.schedule
    undisturbed := h.undisturbed.tail
    contract := contractHolds_of_popped (fun _ => rfl) rfl
    bytes := hbytes
    last := h.last
    deadline := by omega }, rfl⟩

/-- The byte of the last step is the END byte (R98). -/
theorem Receiving.completes (h : Receiving f i [] q rest s) :
    ∃ t, step s = .next t ∧ t.state = phasePostdrain ∧ Received f (f.payload.length + 6) t ∧
      t.taken = s.taken ++ [q.rxData] := by
  have hcons : [q.rxData] = f.bytes.drop i := (receivedBytes_concat (ps := []) h.last).symm.trans h.bytes
  obtain rfl : i = f.payload.length + 6 := by
    have hlen := congrArg List.length hcons
    rw [List.length_singleton, List.length_drop, f.bytes_length] at hlen
    omega
  have hend : q.rxData = endByte := by
    have hbyte : f.bytes[f.payload.length + 6]? = some q.rxData := by
      rw [← List.head?_drop, ← hcons, List.head?_cons]
    exact Option.some.inj (hbyte.symm.trans f.bytes_end)
  have hsample : Received f (f.payload.length + 6) (s.sample q) := { h.received with }
  obtain ⟨t, hrow, ht⟩ := hsample.completes hend h.last h.deadline
  exact ⟨t, (step_of_rxwait h.phase h.schedule h.undisturbed.head h.contract).trans hrow, ht⟩

/-- The run over the bytes of a clean frame receives it, with one step for each input (R102). -/
theorem Receiving.run (h : Receiving f i ps q rest s) (hf : f.Clean) :
    ∃ t, Sys2Proof.core.run (ps.length + 1) s = .next t ∧ t.state = phasePostdrain ∧
      Received f (f.payload.length + 6) t ∧ t.taken = s.taken ++ receivedBytes (ps ++ [q]) := by
  induction ps generalizing s i with
  | nil =>
    obtain ⟨t, hstep, hphase, hreceived, htaken⟩ := h.completes
    exact ⟨t, core_run_of_step hstep 0, hphase, hreceived, by rw [htaken, receivedBytes_concat h.last]; rfl⟩
  | cons p ps ih =>
    cases hv : p.rxValid with
    | false =>
      obtain ⟨u, hstep, hu, hsame⟩ := h.waits hv
      obtain ⟨t, hrun, hphase, hreceived, htaken⟩ := ih hu
      refine ⟨t, (core_run_of_step hstep _).trans hrun, hphase, hreceived, ?_⟩
      rw [htaken, hsame, List.cons_append, receivedBytes_cons_of_invalid hv]
    | true =>
      obtain ⟨u, hstep, hu, hpopped⟩ := h.receives hf hv
      obtain ⟨t, hrun, hphase, hreceived, htaken⟩ := ih hu
      refine ⟨t, (core_run_of_step hstep _).trans hrun, hphase, hreceived, ?_⟩
      rw [htaken, hpopped, List.cons_append, receivedBytes_cons_of_valid hv, List.append_assoc, List.singleton_append]

/-- Settles O46: the run over the frame's bytes receives them all, and each register is as its part of the frame. -/
theorem cleanFrameReceivedExactly : Obligations.CleanFrameReceivedExactly := by
  intro s ps q rest ty id rsv payload hphase hh hp hd hs hu hc hroom hlen hbytes hq hstart hend he
  have hf : Frame.Clean ⟨ty, id, rsv, payload⟩ := ⟨hlen, hstart, hend⟩
  have hreceiving : Receiving ⟨ty, id, rsv, payload⟩ 0 ps q rest s :=
    ⟨.of_clear hh hp hd, hphase, hroom, hs, hu, hc, hbytes, hq, he⟩
  obtain ⟨t, hrun, ht, h, htaken⟩ := hreceiving.run hf
  refine ⟨t, hrun, ht, ?_, h.dlen.trans (if_neg (by omega)), h.pcnt, h.hidx.trans (Nat.add_comm ..), h.payload, htaken⟩
  exact Header.ext_get fun k hk => h.header k (by omega) hk

end Sys2Proof.Machine
end

section
/-! The end of reception: the classes of an EXECUTE frame (R108 to R110), and the row of the cause table that the step
leaving RXWAIT publishes (R107, R114). -/

namespace Sys2Proof.Machine

variable {s t : State} {b : Byte}

/-! ## The classes of an EXECUTE frame -/

/-- Settles O40: the row's meaning is the publication of a failure. -/
theorem nackClass : Obligations.NackClass := fun _ => rfl

/-- Settles O41: both rows publish a success, and differ in `NOTIFY` alone. -/
theorem executeSuccessClasses : Obligations.ExecuteSuccessClasses := fun _ _ _ => ⟨rfl, rfl⟩

/-! ## The rows of the cause table -/

/-- The registers of a published failure (R118), in a transaction that has reported no event. -/
structure State.Failed (t : State) (c : BitVec 3) : Prop where
  cause : t.cause = c
  ok : t.ok = false
  plen : t.plen = 0
  notify : t.notify = false
  event : t.event = 0

/-- The registers of a published success: `DLEN` bytes, `NOTIFY` by the command type, and the event code of a
notification under POLL (R107, R109 to R111). -/
structure State.Succeeded (t : State) : Prop where
  cause : t.cause = causeNone
  ok : t.ok = true
  plen : t.plen = t.dlen
  notify : t.notify = decide (t.hdr.cmdType = notifyType)
  event : t.event = if t.op = opPoll ∧ t.hdr.cmdType = notifyType then eventCode t.hdr.cmdId else 0

/-- The frame that an EXECUTE takes for a NACK (R108). -/
def State.HoldsNack (t : State) : Prop := t.op = opExecute ∧ t.hdr.cmdType = 0x00 ∧ t.hdr.cmdId = 0x02

/-- The rows of R114 that end reception, each with its condition. -/
inductive State.CauseRow (t : State) : Prop
  | none (h : t.Succeeded) (frame : ¬ t.HoldsNack)
  | timeout (h : t.Failed causeTimeout) (deadline : t.elapsed = 200)
  | nack (h : t.Failed causeNack) (frame : t.HoldsNack)
  | incomplete (h : t.Failed causeIncomplete) (ceiling : t.pcnt = t.maxPayload)

/-- Reception is over and its result published, in POSTDRAIN, with `DONE` still to be set (R29, R107). -/
structure State.ReceptionEnded (t : State) : Prop where
  state : t.state = phasePostdrain
  done : t.done = false
  row : t.CauseRow

/-! ## The end of the receive phase -/

/-- A completed frame of an EXECUTE publishes the NACK row for the NACK pattern, and the NONE row without an event for
every other frame (R108 to R110). -/
theorem State.Unpublished.finishRx_execute (hu : s.Unpublished) (hop : s.op = opExecute)
    (ht : finishRx .complete s = .next t) : t.ReceptionEnded := by
  have hpoll : ¬ (s.op = opPoll ∧ s.hdr.cmdType = notifyType) := fun h => by simp [hop] at h
  have hevent : s.event = if s.op = opPoll ∧ s.hdr.cmdType = notifyType then eventCode s.hdr.cmdId else 0 :=
    hu.event.trans (if_neg hpoll).symm
  by_cases hn : s.hdr.cmdType = 0x00 ∧ s.hdr.cmdId = 0x02
  · rw [finishRx_complete_of_class (c := .executeNack) (by rw [hop, hn.1, hn.2]; rfl)] at ht
    cases ht
    exact ⟨rfl, hu.done, .nack ⟨rfl, rfl, rfl, rfl, hu.event⟩ ⟨hop, hn⟩⟩
  · have hframe : ¬ s.HoldsNack := fun h => hn h.2
    by_cases hty : s.hdr.cmdType = notifyType
    · rw [finishRx_complete_of_class (by rw [hop, hty]; exact frameClass_execute_notify _)] at ht
      cases ht
      exact ⟨rfl, hu.done, .none ⟨rfl, rfl, rfl, (decide_eq_true hty).symm, hevent⟩ hframe⟩
    · rw [finishRx_complete_of_class (by rw [hop]; exact frameClass_execute_reply hty hn)] at ht
      cases ht
      exact ⟨rfl, hu.done, .none ⟨rfl, rfl, rfl, (decide_eq_false hty).symm, hevent⟩ hframe⟩

/-- A completed frame of a POLL publishes the NONE row, with the event code of a notification (R111). -/
theorem State.Unpublished.finishRx_poll (hu : s.Unpublished) (hop : s.op = opPoll)
    (ht : finishRx .complete s = .next t) : t.ReceptionEnded := by
  have hframe : ¬ s.HoldsNack := fun ⟨hexecute, _⟩ => by simp [hop] at hexecute
  by_cases hty : s.hdr.cmdType = notifyType
  · rw [finishRx_complete_of_class (by rw [hop, hty]; exact frameClass_poll_notify _)] at ht
    cases ht
    exact ⟨rfl, hu.done, .none ⟨rfl, rfl, rfl, (decide_eq_true hty).symm, (if_pos ⟨hop, hty⟩).symm⟩ hframe⟩
  · rw [finishRx_complete_of_class (by rw [hop]; exact frameClass_poll_other hty)] at ht
    cases ht
    exact ⟨rfl, hu.done, .none ⟨rfl, rfl, rfl, (decide_eq_false hty).symm, (if_neg fun h => hty h.2).symm⟩ hframe⟩

/-! ## The step that leaves RXWAIT -/

/-- A byte that ends reception completes the frame or fills `RXBUF`, which `PCNT` does not exceed (R98, R100, R42
item 3). -/
theorem State.ByteCaptured.closeByte_ends (h : s.ByteCaptured) (ht : Machine.closeByte b s = .next t)
    (hleft : t.state ≠ phaseRxwait) : t.ReceptionEnded := by
  have hu := h.unpublished
  rcases closeByte_cases b s with ⟨-, -, hc⟩ | ⟨-, hfull, hc⟩ | ⟨-, -, hc⟩ <;> rw [hc] at ht
  · exact (h.inv.busyOperation (by simp)).elim (hu.finishRx_execute · ht) (hu.finishRx_poll · ht)
  · cases ht
    have hceiling : s.pcnt = s.maxPayload := BitVec.eq_of_toNat_eq (le_antisymm h.inv.ceiling hfull)
    exact ⟨rfl, hu.done, .incomplete ⟨rfl, rfl, rfl, rfl, hu.event⟩ hceiling⟩
  · cases ht
    exact absurd (by rw [State.tick_eq]; exact h.receiving) hleft

/-- A byte consumed before the deadline reaches the end of its processing captured (R93 to R97). -/
theorem State.Inv.processByte_captured (h : s.Inv) (hs : s.state = phaseRxwait) (he : s.elapsed.toNat < timeoutMs)
    (ht : processByte b s = .next t) : ∃ u, u.ByteCaptured ∧ closeByte b u = .next t := by
  unfold processByte at ht
  split at ht
  next => cases ht
  next v hv =>
    have hcapt := (h.resync hs b).capturePayload (by simpa [State.resync_eq] using hs)
      (by simpa [State.resync_eq] using he) hv
    exact ⟨_, (hcapt.captureHeader b).latchLength, ht⟩

/-- RXWAIT is left by the deadline or by a byte; an idle step stays (R89, R92). -/
theorem State.Inv.execStateRxwait_ends (h : s.Inv) (hs : s.state = phaseRxwait) (ht : execStateRxwait s = .next t)
    (hleft : t.state ≠ phaseRxwait) : t.ReceptionEnded := by
  have hu := h.unpublished (by simp [hs]) (by simp [hs])
  unfold execStateRxwait at ht
  split at ht
  next he =>
    cases ht
    have hdeadline : s.elapsed = 200 := BitVec.eq_of_toNat_eq (le_antisymm h.deadline he)
    exact ⟨rfl, hu.done, .timeout ⟨rfl, rfl, rfl, rfl, hu.event⟩ hdeadline⟩
  next he =>
    split at ht
    next =>
      obtain ⟨u, hcapt, hclose⟩ := h.pop.processByte_captured hs (Nat.lt_of_not_le he) ht
      exact hcapt.closeByte_ends hclose hleft
    next =>
      cases ht
      exact absurd (by rw [State.tick_eq]; exact hs) hleft

/-- Settles O57: the step is the row of RXWAIT, whose end publishes one row of the table. -/
theorem receptionEndsAsTheTableSays : Obligations.ReceptionEndsAsTheTableSays := by
  intro s t h hs hr ht hleft
  obtain ⟨hc, hw⟩ := inputs_of_step_eq_next hr ht
  obtain ⟨o, c, hstep⟩ := step_of_busy hr hc hw (by simp [hs])
  have hview : (s.busyView o c).Inv := { h with }
  have hrow : exec (decodePhase s.state) (s.busyView o c) = .next t := hstep.symm.trans ht
  rw [hs] at hrow
  obtain ⟨hstate, hdone, hcause⟩ := hview.execStateRxwait_ends hs hrow hleft
  refine ⟨hstate, hdone, ?_⟩
  cases hcause with
  | none h hframe => exact .inl ⟨h.cause, h.ok, h.plen, h.notify, h.event, hframe⟩
  | timeout h hdeadline => exact .inr (.inl ⟨h.cause, h.ok, h.plen, h.notify, h.event, hdeadline⟩)
  | nack h hframe => exact .inr (.inr (.inl ⟨h.cause, h.ok, h.plen, h.notify, h.event, hframe⟩))
  | incomplete h hceiling => exact .inr (.inr (.inr ⟨h.cause, h.ok, h.plen, h.notify, h.event, hceiling⟩))

end Sys2Proof.Machine
end

section
/-! The transport ports: the step that stops on a breach of the transport contract (R116, R125, R126), and the only rows
that pop or push (R124 to R126). -/

namespace Sys2Proof.Machine

variable {s t u : State} {p : Pins}

/-! ## A breach of the transport contract -/

/-- The receive side is broken where a byte that was not popped is withdrawn or changed (R116, R125). -/
theorem receiveContract_eq_false_iff : receiveContract s p = false ↔
    s.inp.rxValid = true ∧ s.out.rxPop = false ∧ (p.rxValid = false ∨ p.rxData ≠ s.inp.rxData) := by
  simp [receiveContract, and_assoc, imp_iff_not_or]

/-- The transmit side is broken where the transport calls itself idle in the step after a push (R116, R126). -/
theorem transmitContract_eq_false_iff :
    transmitContract s p = false ↔ s.out.txPush ≠ none ∧ p.txIdle = true := by
  simp [transmitContract, Option.isSome_iff_ne_none]

theorem phaseRow_ne_transportContract (s : State) : exec (decodePhase s.state) s ≠ .fault .transportContract := by
  rcases phaseRow_cases s with ⟨-, hx⟩ | ⟨-, -, hx⟩ | ⟨-, -, hx⟩ | ⟨u, hx, -⟩ <;> simp [hx]

/-- No step that keeps the contract stops on its fault: neither the host access nor a phase row raises it. -/
theorem step_ne_transportContract (hr : s.nextPins.rst = false) (hc : contractHolds s s.nextPins = true) :
    step s ≠ .fault .transportContract := by
  by_cases hw : s.nextPins.busEn = true ∧ s.nextPins.busWide = true
  · simp [step_of_wide hr hc hw]
  · have hw' : s.nextPins.busEn = true → s.nextPins.busWide = false := by simpa using hw
    by_cases hs : s.state = phaseIdle
    · obtain ⟨t, ht, -⟩ := hostAccess_cases s.nextPins (s.sample s.nextPins)
      simp [step_of_idle hr hc hw' hs, ht]
    · obtain ⟨o, c, hx⟩ := step_of_busy hr hc hw' hs
      rw [hx]
      exact phaseRow_ne_transportContract (s.busyView o c)

theorem step_eq_transportContract_iff : step s = .fault .transportContract ↔
    s.nextPins.rst = false ∧ contractHolds s s.nextPins = false := by
  refine ⟨fun h => ?_, fun ⟨hr, hc⟩ => step_of_breach hr hc⟩
  cases hr : s.nextPins.rst with
  | true => simp [step_of_reset hr] at h
  | false => exact ⟨rfl, Bool.eq_false_iff.2 fun hc => step_ne_transportContract hr hc h⟩

/-- Settles O10: the fault is that of a broken contract, which is broken on one of its two sides. -/
theorem transportContractFault : Obligations.TransportContractFault := by
  intro s
  rw [step_eq_transportContract_iff, contractHolds, Bool.and_eq_false_iff, receiveContract_eq_false_iff,
    transmitContract_eq_false_iff]

/-! ## What leaves the transport ports alone -/

/-- Nothing is popped or pushed between `s` and `t`, as far as the ports and the records of both streams show. -/
structure TransportUnchanged (s t : State) : Prop where
  rxPop : t.out.rxPop = s.out.rxPop
  txPush : t.out.txPush = s.out.txPush
  taken : t.taken = s.taken
  sent : t.sent = s.sent

theorem TransportUnchanged.trans (hu : TransportUnchanged s u) (ht : TransportUnchanged u t) :
    TransportUnchanged s t :=
  ⟨ht.rxPop.trans hu.rxPop, ht.txPush.trans hu.txPush, ht.taken.trans hu.taken, ht.sent.trans hu.sent⟩

theorem ReceiveFrame.transportUnchanged (h : ReceiveFrame s t) : TransportUnchanged s t :=
  ⟨congrArg Ports.rxPop h.out, congrArg Ports.txPush h.out, h.taken, h.sent⟩

theorem State.hostMark_transportUnchanged (r : Option Byte → Option Byte) (c : Bool → Bool) (s : State) :
    TransportUnchanged s (s.hostMark r c) := ⟨rfl, rfl, rfl, rfl⟩

/-- A reset step pops and pushes nothing (R131, R132). -/
theorem State.resetStep_transportUnchanged (s : State) (p : Pins) :
    TransportUnchanged (s.sample p) (s.resetStep p) := by
  unfold State.resetStep
  split <;> exact ⟨rfl, rfl, rfl, rfl⟩

/-- No host access pops or pushes (R74 to R81). -/
theorem hostAccess_transportUnchanged (h : hostAccess p s = .next t) : TransportUnchanged s t := by
  obtain ⟨u, hu, hcases⟩ := hostAccess_cases p s
  obtain rfl : u = t := by simpa [hu] using h
  rcases hcases with ⟨b, rfl⟩ | ⟨-, rfl⟩ | ⟨-, rfl⟩ | rfl | ⟨-, k, b, -, rfl⟩ | rfl <;> exact ⟨rfl, rfl, rfl, rfl⟩

/-! ## The rows that pop and push -/

/-- What a step may do at the transport ports: nothing, one pop in a phase that receives, or one push in TXSEND (R124 to
R126). -/
inductive TransportRule (s t : State) : Prop
  | quiet (h : TransportUnchanged s t)
  | pops (valid : s.inp.rxValid = true)
      (phase : s.state = phasePredrain ∨ s.state = phaseRxwait ∨ s.state = phasePostdrain)
      (h : TransportUnchanged s.pop t)
  | pushes (b : Byte) (ready : s.inp.txReady = true) (phase : s.state = phaseTxsend)
      (h : TransportUnchanged (s.push b) t)

theorem TransportRule.trans (hu : TransportRule s u) (ht : TransportUnchanged u t) : TransportRule s t := by
  cases hu with
  | quiet h => exact .quiet (h.trans ht)
  | pops valid phase h => exact .pops valid phase (h.trans ht)
  | pushes b ready phase h => exact .pushes b ready phase (h.trans ht)

theorem execStatePredrain_transportRule (hs : s.state = phasePredrain) (h : execStatePredrain s = .next t) :
    TransportRule s t := by
  rcases execStatePredrain_cases s with ⟨hv, hx⟩ | ⟨-, hx⟩ <;> obtain rfl := Host.Outcome.next.inj (hx.symm.trans h)
  · exact .pops hv (.inl hs) ⟨rfl, rfl, rfl, rfl⟩
  · exact .quiet ⟨rfl, rfl, rfl, rfl⟩

theorem execStateScan_transportRule (h : execStateScan s = .next t) : TransportRule s t := by
  cases hb : s.txByte s.sidx.toNat with
  | none => simp [execStateScan_of_unwritten hb] at h
  | some b =>
    rcases execStateScan_cases hb with hx | ⟨-, hx⟩ | hx <;> obtain rfl := Host.Outcome.next.inj (hx.symm.trans h) <;>
      exact .quiet ⟨rfl, rfl, rfl, rfl⟩

theorem execStateTxsend_transportRule (hs : s.state = phaseTxsend) (h : execStateTxsend s = .next t) :
    TransportRule s t := by
  unfold execStateTxsend at h
  split at h <;> cases h
  next hr => exact .pushes _ hr hs ⟨rfl, rfl, rfl, rfl⟩
  next => exact .quiet ⟨rfl, rfl, rfl, rfl⟩

theorem execStateTxflush_transportRule (h : execStateTxflush s = .next t) : TransportRule s t := by
  rcases execStateTxflush_cases s with hx | hx <;> obtain rfl := Host.Outcome.next.inj (hx.symm.trans h) <;>
    exact .quiet ⟨rfl, rfl, rfl, rfl⟩

/-- RXWAIT pops the byte it processes, before any of the rules of that byte (R93, R125). -/
theorem execStateRxwait_transportRule (hs : s.state = phaseRxwait) (h : execStateRxwait s = .next t) :
    TransportRule s t := by
  unfold execStateRxwait at h
  split at h
  · exact .quiet (finishRx_receiveFrame h).transportUnchanged
  · split at h
    next hv => exact .pops hv (.inr (.inl hs)) (processByte_receiveFrame h).transportUnchanged
    next =>
      cases h
      exact .quiet s.tick_receiveFrame.transportUnchanged

theorem execStatePostdrain_transportRule (hs : s.state = phasePostdrain) (h : execStatePostdrain s = .next t) :
    TransportRule s t := by
  rcases execStatePostdrain_cases s with ⟨hv, hx⟩ | ⟨-, hx⟩ <;> obtain rfl := Host.Outcome.next.inj (hx.symm.trans h)
  · exact .pops hv (.inr (.inr hs)) ⟨rfl, rfl, rfl, rfl⟩
  · exact .quiet ⟨rfl, rfl, rfl, rfl⟩

theorem phaseRow_transportRule (h : exec (decodePhase s.state) s = .next t) : TransportRule s t := by
  unfold decodePhase at h
  split_ifs at h with h0 h1 h2 h3 h4 h5 h6
  · cases h
    exact .quiet ⟨rfl, rfl, rfl, rfl⟩
  · exact execStatePredrain_transportRule h1 h
  · exact execStateScan_transportRule h
  · exact execStateTxsend_transportRule h3 h
  · exact execStateTxflush_transportRule h
  · exact execStateRxwait_transportRule h5 h
  · exact execStatePostdrain_transportRule h6 h
  · cases h

/-! ## The step -/

/-- While busy the host access is a mark, of `bus_rdata` or `CERR` (R77, R80, R83). -/
theorem hostAccess_eq_hostMark (p : Pins) (hs : s.state ≠ phaseIdle) :
    ∃ r c, hostAccess p s = .next (s.hostMark r c) := by
  obtain ⟨t, ht, ⟨b, rfl⟩ | ⟨hidle, -⟩ | ⟨hidle, -⟩ | rfl | ⟨hidle, -⟩ | rfl⟩ := hostAccess_cases p s
  · exact ⟨_, _, s.driveRdata_eq_hostMark b ▸ ht⟩
  · exact absurd hidle hs
  · exact absurd hidle hs
  · exact ⟨_, _, s.refuseWrite_eq_hostMark ▸ ht⟩
  · exact absurd hidle hs
  · exact ⟨id, id, ht⟩

theorem decodePhase_format (c : BitVec 3) : (decodePhase c).format = .phaseCode := by
  unfold decodePhase
  split_ifs <;> rfl

/-- A busy step is the row of its phase on the sampled state, with the mark of the host access (R83). -/
theorem phaseRow_of_step (hr : s.nextPins.rst = false) (hs : s.state ≠ phaseIdle) (h : step s = .next t) :
    ∃ u r c, exec (decodePhase s.state) (s.sample s.nextPins) = .next u ∧ t = u.hostMark r c := by
  obtain ⟨hc, hw⟩ := inputs_of_step_eq_next hr h
  obtain ⟨r, c, hmark⟩ := hostAccess_eq_hostMark (s := s.sample s.nextPins) s.nextPins hs
  rw [step_eq_rows hr hc hw, hmark, andThen_next, phaseCode_hostBlind (decodePhase_format s.state)] at h
  obtain ⟨u, hu, hut⟩ := andThen_eq_next.1 h
  exact ⟨u, r, c, hu, (Host.Outcome.next.inj hut).symm⟩

/-- A step with a reset leaves the transport ports undriven (R131, R132). -/
theorem transportUnchanged_of_reset (hr : s.nextPins.rst = true) (h : step s = .next t) :
    TransportUnchanged (s.sample s.nextPins) t := by
  obtain rfl := Host.Outcome.next.inj ((step_of_reset hr).symm.trans h)
  exact s.resetStep_transportUnchanged _

/-- Every step keeps to the rule of the transport ports: a reset drives none of them, and neither does a host access
beside the row of the phase. -/
theorem step_transportRule (h : step s = .next t) : TransportRule (s.sample s.nextPins) t := by
  cases hr : s.nextPins.rst with
  | true => exact .quiet (transportUnchanged_of_reset hr h)
  | false =>
    by_cases hs : s.state = phaseIdle
    · exact .quiet (hostAccess_transportUnchanged (hostAccess_of_step hr hs h))
    · obtain ⟨u, r, c, hu, rfl⟩ := phaseRow_of_step hr hs h
      exact (phaseRow_transportRule hu).trans (u.hostMark_transportUnchanged r c)

/-- What the rule says of a step, which starts with its ports undriven (R124). -/
theorem TransportRule.ports (h : TransportRule (s.sample p) t) :
    (t.out.txPush ≠ none → s.state = phaseTxsend ∧ p.txReady = true) ∧
    (t.out.rxPop = true → p.rxValid = true ∧
      (s.state = phasePredrain ∨ s.state = phaseRxwait ∨ s.state = phasePostdrain)) ∧
    t.taken = s.taken ++ (if t.out.rxPop then [p.rxData] else []) ∧
    t.sent = s.sent ++ t.out.txPush.toList := by
  cases h with
  | quiet h => simp [h.rxPop, h.txPush, h.taken, h.sent, Ports.none]
  | pops hvalid hphase h =>
    refine ⟨fun hpush => absurd h.txPush hpush, fun _ => ⟨hvalid, hphase⟩, ?_, ?_⟩
    · simp [h.rxPop, h.taken]
    · simp [h.txPush, h.sent, Ports.none]
  | pushes b hready hphase h =>
    refine ⟨fun _ => ⟨hphase, hready⟩, fun hpop => ?_, ?_, ?_⟩
    · simp [h.rxPop, Ports.none] at hpop
    · simp [h.rxPop, h.taken, Ports.none]
    · simp [h.txPush, h.sent]

/-- Settles O56: every step keeps to the rule of the transport ports, and a step that drives one of them is no reset. -/
theorem portsDrivenOnlyByRule : Obligations.PortsDrivenOnlyByRule := by
  intro s t h
  obtain ⟨hpush, hpop, htaken, hsent⟩ := (step_transportRule h).ports
  have hrst : t.out.txPush ≠ none ∨ t.out.rxPop = true → s.nextPins.rst = false := by
    refine fun hdriven => Bool.eq_false_iff.2 fun hr => ?_
    have hquiet := transportUnchanged_of_reset hr h
    exact hdriven.elim (· hquiet.txPush) (by simp [hquiet.rxPop, Ports.none])
  exact ⟨fun h => ⟨hrst (.inl h), hpush h⟩, fun h => ⟨hrst (.inr h), hpop h⟩, htaken, hsent⟩

end Sys2Proof.Machine
end

section
/-! The reset step (R131, R117 item 1): the whole next state, whatever the state before and the other inputs. -/

namespace Sys2Proof.Machine

/-- The reset step splits on one question only, whether the step reads: a read is answered with 0x00, and otherwise no
port is driven (R131). -/
theorem State.resetStep_eq (s : State) (p : Pins) :
    s.resetStep p = { State.reset with
      maxPayload := s.maxPayload, inp := p
      out := { Ports.none with rdata := if p.busEn = true ∧ p.busWe = false then some 0x00 else none }
      cycle := s.cycle + 1, schedule := s.schedule.tail, sent := s.sent, taken := s.taken } := by
  have hread : (p.busEn && !p.busWe) = true ↔ p.busEn = true ∧ p.busWe = false := by simp
  unfold State.resetStep
  split
  next h =>
    rw [if_pos (hread.1 h)]
    rfl
  next h =>
    rw [if_neg (mt hread.2 h)]
    rfl

/-- Settles O8: the test of `rst` stands before those of the model faults, so the step is the reset step (log 6). -/
theorem resetOverridesEverything : Obligations.ResetOverridesEverything :=
  fun s hr => (step_of_reset hr).trans (congrArg Host.Outcome.next (s.resetStep_eq _))

end Sys2Proof.Machine
end
